-- ==== Sys2Proof/Word.lean ====
section
/-! DEFINITION. The word types of the KB2610: what the manual itself handles as bits. Counts and
physical quantities are natural numbers or integers with the clamps the rules state. -/

namespace Sys2Proof

/-- One data character of a link, one converter reading, one byte of a stored record. -/
abbrev Byte := BitVec 8

/-- One cell of the store (R152: 512 cells of 16 bits). -/
abbrev StoreWord := BitVec 16

/-- A value of the 24-bit timebase, in microseconds (R2). -/
abbrev Micros := BitVec 24

/-- A subset of the twelve switch inputs, SW0 in bit 0 (R15, R198). -/
abbrev InputSet := BitVec 12

/-- A subset of the nine notice kinds, WARNINGS in bit 0 (R184, R198). -/
abbrev NoticeSet := BitVec 9

end Sys2Proof
end

