-- ==== Sys2Proof/Syntax.lean ====
section
/-! DEFINITION. The commands of the KB2610: one constructor of `Instr` for each row of
spec/opcode_table.json, with the operands the row's rule gives it, and the requests a message carries. -/

namespace Sys2Proof

/-- The three links (00_scope, The three masters), in the order the manual lists them. -/
inductive Link where
  | front | rear | service
  deriving DecidableEq, Repr

/-- The two pulse channels with an edge record (R3). -/
inductive PulseChannel where
  | spd | eng
  deriving DecidableEq, Repr

/-- The two sounders (R92): F on pin SNDF, R on pin SNDR. -/
inductive Sounder where
  | front | rear
  deriving DecidableEq, Repr

/-- The three converter channels with fault detection (R20). -/
inductive Sender where
  | fuel | coolant | oil
  deriving DecidableEq, Repr

/-- The ten lamps in the order of the check record (07_lamp_coil_and_sender_checking). -/
inductive Lamp where
  | oil | temp | brake | door | belt | fuel | call | check | service | charge
  deriving DecidableEq, Repr

/-- The five gauges in the order of the table of gauges (04_gauge_drive). -/
inductive Gauge where
  | speedo | tacho | fuel | temp | oilp
  deriving DecidableEq, Repr

/-- The two coils of a gauge. -/
inductive Coil where
  | sin | cos
  deriving DecidableEq, Repr

/-- The twenty outputs of the check record (R139): ten lamps, then two coils of each gauge. -/
inductive CheckItem where
  | lamp (l : Lamp)
  | coil (g : Gauge) (c : Coil)
  deriving DecidableEq, Repr

/-- The fifteen warning kinds in priority order (R92). -/
inductive WarningKind where
  | oilPressure | overheat | brake | doorMoving | keyLeft | lightsLeft | seatBelt | overspeed
  | lowFuel | rearCall | checkFault | serviceDue | linkLost | battery | arrival
  deriving DecidableEq, Repr

/-- The whole item a SERVICE_WRITE carries (R129), each field at the width of its parameter (R198). -/
structure ItemParams where
  enabled : Byte
  labelCode : Byte
  intervalKm : BitVec 16
  intervalDays : BitVec 16
  lastKm : BitVec 24
  lastDay : BitVec 16
  driverReset : Byte
  deriving DecidableEq, Repr

/-- The 33 requests a message can carry, in the order of their codes (R187, R198), with the parameter
values of the table Request parameters at their widths. -/
inductive Request where
  | presence | noticesRead | noticeMaskSet (mask : BitVec 16) | inputsRead | errorsRead | identityRead
  | valuesRead | odometerRead | tripRead (index : Byte) | warningsRead | clockRead | serviceRead
  | checkRead | tripReset (index : Byte) | tripHold (index : Byte) | tripResume (index : Byte)
  | tripSetDestination (km : BitVec 16) | warningAck (kind : Byte) | call
  | overspeedSet (setpoint : BitVec 16) | rearQuietSet (value : Byte) | clockSet (time : BitVec 24)
  | serviceReset (slot : Byte) | checkStart | serviceWrite (slot : Byte) (item : ItemParams)
  | storeOpen | storeStatus | windowSelect (region index mode : Byte) | windowRead
  | windowWrite (value : StoreWord) | bankSwitch (bank : Byte) | odometerSet (value : BitVec 24)
  | restart
  deriving DecidableEq, Repr

/-- The commands: events at the part's pins, expiries of its timers, completions of its work, and
requests taken on a link. One constructor per row of spec/opcode_table.json, in the table's order. -/
inductive Instr where
  /-- PULSE_EDGE (R3): a rising edge on SPD or ENG, at the timebase's present value. -/
  | pulseEdge (ch : PulseChannel)
  | injectorOpen
  | injectorClose
  | longPulseExpiry
  | gateExpiry
  | quietExpiry (ch : PulseChannel)
  | engineSecondsExpiry
  | stationaryExpiry
  | stationarySecondsExpiry
  /-- SWITCH_SAMPLE (R14): bit i of `pins` is the level on pin SWi at the sample. -/
  | switchSample (pins : BitVec 12)
  /-- CONVERSION_COMPLETE (R17): the conversion in progress ends with this reading. -/
  | conversionComplete (reading : Byte)
  | persistenceExpiry (sender : Sender)
  | driverOverload (item : CheckItem)
  | fuelSampleExpiry
  | refreshExpiry
  /-- RESOUND_EXPIRY (R107): the sounder F re-sound timer of this kind's entry. -/
  | resoundExpiry (kind : WarningKind)
  | strikeEnd (player : Sounder)
  | gapEnd (player : Sounder)
  | restEnd (player : Sounder)
  | linkGraceExpiry
  | oneSecondEvent
  | cellProgrammed
  /-- POWER_ON_RESET (R196): the operands are the levels on STRAP_UNITS and STRAP_REAR, yes for high. -/
  | powerOnReset (strapUnits strapRear : Bool)
  /-- RESTART_BEGIN (R197): the operands are the strap levels, as for POWER_ON_RESET. -/
  | restartBegin (strapUnits strapRear : Bool)
  | supplyLowAsserted
  | supplyLowReleased
  | bulbCheckExpiry
  | beltTimerExpiry
  | shutdownTimerExpiry
  /-- CHARACTER_RECEIVED (R174, R175): the eleven bits of the character, each as its seventh, eighth and
  ninth samples: bit b of the character has its samples in bits 3b, 3b+1 and 3b+2. Bit 0 is the start
  bit, bits 1 to 8 the data from the least significant, bit 9 the mark, bit 10 the stop bit. -/
  | characterReceived (link : Link) (samples : BitVec 33)
  | gapTimerExpiry (link : Link)
  | replyEnd (link : Link)
  | presenceExpiry (link : Link)
  | presence (link : Link)
  | noticesRead (link : Link)
  | noticeMaskSet (link : Link) (mask : BitVec 16)
  | inputsRead (link : Link)
  | errorsRead (link : Link)
  | identityRead (link : Link)
  | valuesRead (link : Link)
  | odometerRead (link : Link)
  | tripRead (link : Link) (index : Byte)
  | warningsRead (link : Link)
  | clockRead (link : Link)
  | serviceRead (link : Link)
  | checkRead (link : Link)
  | tripReset (link : Link) (index : Byte)
  | tripHold (link : Link) (index : Byte)
  | tripResume (link : Link) (index : Byte)
  | tripSetDestination (link : Link) (km : BitVec 16)
  | warningAck (link : Link) (kind : Byte)
  | call (link : Link)
  | overspeedSet (link : Link) (setpoint : BitVec 16)
  | rearQuietSet (link : Link) (value : Byte)
  | clockSet (link : Link) (time : BitVec 24)
  | serviceReset (link : Link) (slot : Byte)
  | checkStart (link : Link)
  | serviceWrite (link : Link) (slot : Byte) (item : ItemParams)
  | storeOpen (link : Link)
  | storeStatus (link : Link)
  | windowSelect (link : Link) (region index mode : Byte)
  | windowRead (link : Link)
  | windowWrite (link : Link) (value : StoreWord)
  | bankSwitch (link : Link) (bank : Byte)
  | odometerSet (link : Link) (value : BitVec 24)
  | restart (link : Link)
  | keepAliveLost
  /-- FALSE_START (R174): a change of RX from 1 to 0 whose start bit majority reads 1. -/
  | falseStart (link : Link)
  | rxReturnsToIdleLevel (link : Link)
  deriving DecidableEq, Repr

end Sys2Proof
end

