-- ==== Sys2Proof/Machine/State.lean ====
section
/-! DEFINITION. The state of the KB2610 as plain data: one structure per block of 00_scope (Block overview),
the queue of waiting commands, the closed lists of fault and refusal reasons, and the state after reset. -/

namespace Sys2Proof.Machine

open Sys2Proof

/-- A timer: idle, or running with this many microseconds left before its expiry. -/
abbrev Timer := Option Nat

/-! Records with one entry for each member of a fixed set. -/

/-- One entry for each link. -/
structure PerLink (α : Type) where
  front : α
  rear : α
  service : α
  deriving DecidableEq, Repr

/-- One entry for each sender with fault detection. -/
structure PerSender (α : Type) where
  fuel : α
  coolant : α
  oil : α
  deriving DecidableEq, Repr

/-- One entry for each converter channel, in conversion order (R17). -/
structure PerChannel (α : Type) where
  fuel : α
  coolant : α
  oil : α
  battery : α
  air : α
  sense : α
  ref : α
  spare : α
  deriving DecidableEq, Repr

/-- One entry for each switch input, SW0 to SW11 (01_signal_inputs_and_measurement, Switch inputs). -/
structure PerSwitch (α : Type) where
  ignOn : α
  keyIn : α
  doorDrv : α
  doorOther : α
  beltDrv : α
  parkBrake : α
  headlampSw : α
  oilSw : α
  brakeFluid : α
  washerLow : α
  rearCall : α
  spare : α
  deriving DecidableEq, Repr

/-- One entry for each trip record, index 0 to 3 (03_trip_records_and_the_trip_computer, The trip table). -/
structure PerTrip (α : Type) where
  tripA : α
  tripB : α
  journey : α
  tank : α
  deriving DecidableEq, Repr

/-- One entry for each gauge. -/
structure PerGauge (α : Type) where
  speedo : α
  tacho : α
  fuel : α
  temp : α
  oilp : α
  deriving DecidableEq, Repr

/-- One entry for each coil of a gauge. -/
structure PerCoil (α : Type) where
  sin : α
  cos : α
  deriving DecidableEq, Repr

/-- One entry for each lamp. -/
structure PerLamp (α : Type) where
  oil : α
  temp : α
  brake : α
  door : α
  belt : α
  fuel : α
  call : α
  check : α
  service : α
  charge : α
  deriving DecidableEq, Repr

/-- One entry for each sounder. -/
structure PerSounder (α : Type) where
  front : α
  rear : α
  deriving DecidableEq, Repr

/-- One entry for each slot of the service table, slot 0 to 5 (R118). -/
structure PerSlot (α : Type) where
  s0 : α
  s1 : α
  s2 : α
  s3 : α
  s4 : α
  s5 : α
  deriving DecidableEq, Repr

/-! ### Calibration (NVS) -/

/-- A six-point curve, its points in order of rising x (R19, R73). -/
abbrev Curve := List (Int × Int)

/-- The quantities of a calibration bank (08_non_volatile_store_and_calibration_banks, Calibration quantities). -/
structure Calibration where
  pulsesPerKm : Nat
  tachPulsesPerRev : Nat
  injectorUsPerMl : Nat
  injectorDeadTime : Nat
  injectorsPerPulse : Nat
  tankCapacity : Nat
  fuelReserve : Nat
  defaultConsumption : Nat
  hotThreshold : Nat
  oilLowThreshold : Nat
  gaugeSlew : PerGauge Nat
  gaugeDeadband : PerGauge Nat
  elecOffset : PerGauge Nat
  sweepEnable : Bool
  /-- WarningEnable: kind k in bit k - 5 (R200). -/
  warningEnable : BitVec 11
  soonKm : Nat
  soonDays : Nat
  overdueKm : Nat
  overdueDays : Nat
  gaugeCurves : PerGauge Curve
  tankCurve : Curve
  coolantCurve : Curve
  oilCurve : Curve
  airCurve : Curve
  deriving DecidableEq, Repr

/-- The part of a calibration that the Gauge Driver takes whole at a refresh (R90): its curves, GaugeSlew,
GaugeDeadband, ElecOffset, and TankCapacity for the FUEL permille. -/
structure GaugeCalibration where
  curves : PerGauge Curve
  slew : PerGauge Nat
  deadband : PerGauge Nat
  elecOffset : PerGauge Nat
  tankCapacity : Nat
  deriving DecidableEq, Repr

/-- The gauges' part of a calibration. -/
def Calibration.forGauges (c : Calibration) : GaugeCalibration :=
  ⟨c.gaugeCurves, c.gaugeSlew, c.gaugeDeadband, c.elecOffset, c.tankCapacity⟩

/-! ### Pulse Capture Unit -/

/-- A gate record (R5): EdgeCount n, FirstEdgeTime, LastEdgeTime and PrevPeriod. -/
structure GateRecord where
  count : Nat
  firstEdge : Option Micros
  lastEdge : Option Micros
  prevPeriod : Option Nat
  deriving DecidableEq, Repr

/-- The edge record, gate record and quiet timer of SPD or ENG (R3, R5, R7). -/
structure PulseInput where
  edgeRecord : Option Micros
  gate : GateRecord
  quietTimer : Timer
  deriving DecidableEq, Repr

/-- An open injector pulse (R12): its opening time and its Long flag. -/
structure OpenPulse where
  openedAt : Micros
  long : Bool
  deriving DecidableEq, Repr

/-- The Pulse Capture Unit (R2 to R12). -/
structure Pcu where
  timebase : Micros
  spd : PulseInput
  eng : PulseInput
  gateTimer : Timer
  speedV : Nat
  engineN : Nat
  engineRunning : Bool
  engineRunTime : Nat
  engineSecondsTimer : Timer
  stationary : Bool
  stationaryTime : Nat
  stationaryTimer : Timer
  stationarySecondsTimer : Timer
  openPulse : Option OpenPulse
  longPulseTimer : Timer
  deriving DecidableEq, Repr

/-! ### Switch Sampler -/

/-- The accepted level of a switch input (R13). -/
inductive SwitchLevel where
  | active | inactive | unsettled
  deriving DecidableEq, Repr

/-- The debounce state of one input (R13, R14). `lastActive` is the level of the sample before, which an
unsettled input's count is counted on. -/
structure SwitchState where
  accepted : SwitchLevel
  count : Nat
  lastActive : Bool
  deriving DecidableEq, Repr

/-- The Switch Sampler (R13 to R16). `pins` holds the levels last on the twelve pins, SW0 in bit 0. -/
structure Sws where
  inputs : PerSwitch SwitchState
  seen : PerLink InputSet
  sampleTimer : Timer
  pins : BitVec 12
  deriving DecidableEq, Repr

/-! ### Converter -/

/-- A converter channel (R17). -/
inductive Channel where
  | fuel | coolant | oil | battery | air | sense | ref | spare
  deriving DecidableEq, Repr

/-- The conversion in progress (R17): its channel, the capture taken when it began (R22) and its timer. -/
structure Conversion where
  channel : Channel
  startedAt : Micros
  timer : Timer
  deriving DecidableEq, Repr

/-- A sender's fault record (R20). -/
structure SenderFault where
  flag : Bool
  persistence : Timer
  inRangeCount : Nat
  deriving DecidableEq, Repr

/-- The Converter (R17 to R22). `analog` holds what each channel's input last read as. -/
structure Adc where
  readings : PerChannel (Option Byte)
  fuelLevel : Option Nat
  coolantTemp : Option Int
  oilPressure : Option Nat
  batteryVoltage : Option Nat
  airTemp : Option Int
  faults : PerSender SenderFault
  conversion : Option Conversion
  analog : PerChannel Byte
  deriving DecidableEq, Repr

/-! ### Distance and Fuel Accumulator -/

/-- The Distance and Fuel Accumulator (R23 to R43). `estimate` is E. -/
structure Dfa where
  rd : Nat
  odometer : Nat
  odoSubCount : Nat
  odoLost : Bool
  rf : Nat
  estimate : Option Nat
  fuelSubCount : Nat
  fuelSampleTimer : Timer
  deriving DecidableEq, Repr

/-! ### Trip Computer -/

/-- A record's three counts (R44). -/
structure TripCounts where
  distance : Nat
  fuel : Nat
  runTime : Nat
  deriving DecidableEq, Repr

/-- A trip record (R44): its counts, State and Previous. -/
structure TripRecord where
  counts : TripCounts
  held : Bool
  previous : Option TripCounts
  deriving DecidableEq, Repr

/-- A slot of the instant window (R58). -/
structure Slot where
  du : Nat
  ml : Nat
  deriving DecidableEq, Repr

/-- The Trip Computer (R44 to R68). `ring` is oldest first; `lastRange` is the range last delivered to the
Warning Controller (R65): none before the first delivery, and then the range or its absence. -/
structure Trc where
  trips : PerTrip TripRecord
  destinationKm : Option Nat
  arrivalArmed : Bool
  ring : List Slot
  current : Slot
  lastRange : Option (Option Nat)
  deriving DecidableEq, Repr

/-! ### Gauge Driver -/

/-- A gauge's Phase (R69). -/
inductive Phase where
  | parked | sweepUp | sweepDown | tracking | parking | disabled
  deriving DecidableEq, Repr

/-- A gauge's Hold state (R84). -/
inductive Hold where
  | none | requested | granted
  deriving DecidableEq, Repr

/-- A gauge record (R69). `faulted` marks the members of FaultedCoils; `duty` holds the duties on the pins. -/
structure GaugeRecord where
  target : Nat
  current : Nat
  phase : Phase
  hold : Hold
  faulted : PerCoil Bool
  duty : PerCoil Int
  deriving DecidableEq, Repr

/-- The Gauge Driver (R69 to R91). `restDelivered` says that gauges at rest was delivered since the last
SHUTDOWN entry (R80); `calibration` is the set last taken (R90, assumption 41). -/
structure Gdr where
  gauges : PerGauge GaugeRecord
  calibration : GaugeCalibration
  refreshTimer : Timer
  restDelivered : Bool
  deriving DecidableEq, Repr

/-! ### Warning Controller -/

/-- The level of each STATE kind, and the two parts of BATTERY (R93, R94). -/
structure ConditionLevels where
  oilPressure : Bool
  overheat : Bool
  brake : Bool
  doorMoving : Bool
  keyLeft : Bool
  lightsLeft : Bool
  seatBelt : Bool
  overspeed : Bool
  lowFuel : Bool
  checkFault : Bool
  serviceDue : Bool
  linkLost : Bool
  battery : Bool
  batteryLow : Bool
  batteryHigh : Bool
  deriving DecidableEq, Repr

/-- An entry of the active warning list (R100). -/
structure WarningEntry where
  kind : WarningKind
  conditionPresent : Bool
  pending : PerSounder Bool
  acked : PerSounder Bool
  resound : Timer
  raisedAt : Nat
  deriving DecidableEq, Repr

/-- What a player does (R109, R110): during a strike or a gap it holds Served and Step. `ending` is a STRIKE whose entry
has been removed: it finishes, and its pattern goes no further (R102, R111). -/
inductive PlayerState where
  | idle
  | strike (served : WarningKind) (step : Nat)
  | ending (served : WarningKind) (step : Nat)
  | gap (served : WarningKind) (step : Nat)
  | rest
  deriving DecidableEq, Repr

/-- A sounder player with its step timer (R109). -/
structure Player where
  state : PlayerState
  timer : Timer
  deriving DecidableEq, Repr

/-- A lamp's Wanted, Blocked and Output (R114, R115). -/
structure LampState where
  wanted : Bool
  blocked : Bool
  output : Bool
  deriving DecidableEq, Repr

/-- The Warning Controller (R92 to R117). `entries` is the active warning list, most urgent first. -/
structure Wrc where
  levels : ConditionLevels
  linkGraceTimer : Timer
  overspeedSetpoint : Nat
  entries : List WarningEntry
  rearQuiet : Bool
  players : PerSounder Player
  lamps : PerLamp LampState
  bulbCheck : Bool
  beltWindow : Bool
  deriving DecidableEq, Repr

/-! ### Service Monitor -/

/-- A service item's State (R122). -/
inductive DueState where
  | inactive | ok | dueSoon | due | overdue
  deriving DecidableEq, Repr

/-- A service item (R118): the seven stored fields and the State. -/
structure ServiceItem where
  enabled : Bool
  labelCode : Nat
  intervalKm : Nat
  intervalDays : Nat
  lastKm : Nat
  lastDay : Nat
  driverReset : Bool
  state : DueState
  deriving DecidableEq, Repr

/-- The Service Monitor (R118 to R138). -/
structure Svm where
  items : PerSlot ServiceItem
  secondDivider : Timer
  timeOfDay : Nat
  clockSet : Bool
  dayTimer : Nat
  dayCount : Nat
  deriving DecidableEq, Repr

/-! ### Check Sequencer -/

/-- The check record's State (R139). -/
inductive CheckState where
  | idle | running | done | aborted
  deriving DecidableEq, Repr

/-- The check record's Source (R140). -/
inductive CheckSource where
  | absent | auto | front | service
  deriving DecidableEq, Repr

/-- The step phase (R142). -/
inductive StepPhase where
  | none | holdWait | driven
  deriving DecidableEq, Repr

/-- An item's Result (R139). -/
inductive CheckResult where
  | notTested | normal | openCircuit | short
  deriving DecidableEq, Repr

/-- An item's Cause (R139). -/
inductive Cause where
  | absent | step | overload
  deriving DecidableEq, Repr

/-- An item's Result, Reading and Cause (R139). -/
structure ItemRecord where
  result : CheckResult
  reading : Option Byte
  cause : Cause
  deriving DecidableEq, Repr

/-- The Check Sequencer's record (R139 to R151). -/
structure Chk where
  state : CheckState
  source : CheckSource
  currentItem : Option CheckItem
  phase : StepPhase
  driveTime : Option Micros
  lamps : PerLamp ItemRecord
  coils : PerGauge (PerCoil ItemRecord)
  faultCount : Nat
  faultIndication : Bool
  deriving DecidableEq, Repr

/-! ### Non-volatile Store -/

/-- A calibration bank. -/
inductive Bank where
  | a | b
  deriving DecidableEq, Repr

/-- A job's class (R159). -/
inductive JobClass where
  | urgent | normal
  deriving DecidableEq, Repr

/-- A job's origin (WriteJob table). -/
inductive Origin where
  | internal | service | front
  deriving DecidableEq, Repr

/-- A job's target and data together: the ring and an odometer value (R154), or a run of cells from
`first` with one value per cell (R155). -/
inductive JobData where
  | odometer (value : Nat)
  | cells (first : Nat) (values : List StoreWord)
  deriving DecidableEq, Repr

/-- A write job (R159). `progress` is NOT_BEGUN (none) or the next cell to program. -/
structure WriteJob where
  data : JobData
  jobClass : JobClass
  origin : Origin
  progress : Option Nat
  deriving DecidableEq, Repr

/-- A region of the store, in the order of the table of R152. -/
inductive Region where
  | odoRing | day | snapshot | serviceTable | control | calA | calB | identity | unused
  deriving DecidableEq, Repr

/-- The window's stepping mode (R166). -/
inductive WindowMode where
  | noStep | stepBoth | stepWrite
  deriving DecidableEq, Repr

/-- The SERVICE window's selection (R166). -/
structure Window where
  region : Region
  index : Nat
  mode : WindowMode
  writeEnabled : Bool
  deriving DecidableEq, Repr

/-- The Non-volatile Store (R152 to R172). `cells` lists the cells that differ from the erased 0xFFFF,
addresses rising. `queue` holds the pending jobs, a suspended one among them, and `inFlight` the one
being programmed. `draining` is yes from a restart until its queue has been emptied (R158);
`recoveryDone` says that recovery done was delivered since the last reset (R156); `unknownCount` is the
model's own counter of free cell values drawn. -/
structure Nvs where
  cells : List (Nat × StoreWord)
  queue : List WriteJob
  inFlight : Option WriteJob
  cellTimer : Timer
  ringPointer : Nat
  unlockLatch : Bool
  odometerLock : Bool
  activeBank : Option Bank
  switchInFlight : Bool
  calFault : Bool
  formatGood : Bool
  window : Option Window
  calibration : Calibration
  draining : Bool
  recoveryDone : Bool
  unknownCount : Nat
  deriving DecidableEq, Repr

/-! ### Link Ports -/

/-- The receive state of a port (R175). -/
inductive ReceiveState where
  | idle | inMessage | inUnknown
  deriving DecidableEq, Repr

/-- A complete, judged message (R175, R177, R178). -/
inductive Message where
  | bad | unknown
  | good (request : Request)
  deriving DecidableEq, Repr

/-- A reply in transmission (R178, R179): its characters, the index of the next character to send, and
the time left of the character being sent. Its first character has mark bit 1, the others 0. -/
structure Reply where
  chars : List Byte
  next : Nat
  timer : Timer
  deriving DecidableEq, Repr

/-- A link port (09_links_requests_and_notices, LinkPort). `looking` says that the receiver looks for a
start (R174); `checkSum` is the sum of the data of every character of the message, held or not (R177);
`cutOff` is a reply that a restart has cut off, while its character being sent still lasts (R180; assumption 46). -/
structure LinkPort where
  looking : Bool
  receiveState : ReceiveState
  received : List Byte
  checkSum : Byte
  spoiled : Bool
  gapTimer : Timer
  waiting : Option Message
  reply : Option Reply
  cutOff : Option Reply
  present : Bool
  presenceTimer : Timer
  charErrors : Nat
  discardedMessages : Nat
  overruns : Nat
  noticeSet : NoticeSet
  noticeMask : NoticeSet
  deriving DecidableEq, Repr

/-- The Link Ports (R173 to R188). `restartArmed` says that the reply in transmission on SERVICE is a
RESTART's, whose end begins the restart (R180). -/
structure Lnk where
  ports : PerLink LinkPort
  restartArmed : Bool
  deriving DecidableEq, Repr

/-! ### Power Mode Controller -/

/-- The mode (R189), in the order of its reply code (R198). -/
inductive Mode where
  | startup | run | shutdown | standby
  deriving DecidableEq, Repr

/-- The Power Mode Controller (R189 to R197). -/
structure Pmc where
  mode : Mode
  imperial : Bool
  rearFitted : Bool
  supplyLow : Bool
  bulbCheckTimer : Timer
  beltTimer : Timer
  shutdownTimer : Timer
  gaugesAtRest : Bool
  snapshotWritten : Bool
  /-- The levels on the strap pins, high for yes. -/
  strapUnits : Bool
  strapRear : Bool
  deriving DecidableEq, Repr

/-! ### The part and the machine -/

/-- The part: its twelve blocks, and whether the keep-alive supply is present (R196). -/
structure Panel where
  powered : Bool
  pcu : Pcu
  sws : Sws
  adc : Adc
  dfa : Dfa
  trc : Trc
  gdr : Gdr
  wrc : Wrc
  svm : Svm
  chk : Chk
  nvs : Nvs
  lnk : Lnk
  pmc : Pmc
  deriving DecidableEq, Repr

/-- The machine: the part, and the commands that wait for it, first in first out. -/
structure State extends Panel where
  pending : List Instr
  deriving DecidableEq, Repr

/-- Reasons to stop with a fault. The manual names none: every event and request has a stated outcome,
so the list is empty and no command can fault (safe). -/
inductive Fault where
  deriving DecidableEq, Repr

/-- Reasons to refuse a command. -/
inductive Refusal where
  /-- Raised by `exec` alone, for a row of the table whose meaning is not written yet. Safe: no claim
  about such a command can be proved. No arm raises it in this model. -/
  | notModelled (mnemonic : String)
  deriving DecidableEq, Repr

/-! ### The state after reset

A power-on reset of a part whose store is erased (every cell 0xFFFF), with both straps low: what R196 and
R156 leave when nothing can be recovered. -/

/-- The ROM defaults (08_non_volatile_store_and_calibration_banks, Calibration quantities; R73). -/
def romDefaults : Calibration where
  pulsesPerKm := 4000
  tachPulsesPerRev := 4
  injectorUsPerMl := 300
  injectorDeadTime := 400
  injectorsPerPulse := 4
  tankCapacity := 1000
  fuelReserve := 120
  defaultConsumption := 180
  hotThreshold := 118
  oilLowThreshold := 50
  gaugeSlew := ⟨8, 12, 1, 2, 4⟩
  gaugeDeadband := ⟨2, 2, 4, 2, 2⟩
  elecOffset := ⟨0, 0, 0, 0, 0⟩
  sweepEnable := true
  warningEnable := 0x7FF
  soonKm := 1000
  soonDays := 30
  overdueKm := 1500
  overdueDays := 45
  gaugeCurves := {
    speedo := [(0, 0), (400, 128), (800, 256), (1200, 384), (1600, 512), (2400, 767)]
    tacho := [(0, 0), (1000, 96), (2000, 192), (4000, 384), (6000, 576), (8000, 767)]
    fuel := [(0, 0), (125, 32), (250, 64), (500, 128), (750, 192), (1000, 255)]
    temp := [(40, 0), (70, 64), (85, 128), (105, 128), (115, 192), (130, 255)]
    oilp := [(0, 0), (100, 51), (200, 102), (300, 153), (400, 204), (500, 255)] }
  tankCurve := [(10, 0), (50, 200), (100, 400), (150, 600), (200, 800), (245, 1000)]
  coolantCurve := [(20, 130), (60, 105), (100, 88), (140, 70), (180, 45), (230, 10)]
  oilCurve := [(10, 0), (50, 100), (100, 250), (150, 400), (200, 550), (245, 700)]
  airCurve := [(20, 80), (60, 50), (100, 30), (140, 10), (180, -10), (230, -40)]

/-- A pulse channel after reset (R3, R5). -/
def PulseInput.reset : PulseInput := ⟨none, ⟨0, none, none, none⟩, none⟩

/-- The Pulse Capture Unit after reset: the gate timer and the stationary-seconds timer run (R2, R5, R11). -/
def Pcu.reset : Pcu where
  timebase := 0
  spd := PulseInput.reset
  eng := PulseInput.reset
  gateTimer := some 125000
  speedV := 0
  engineN := 0
  engineRunning := false
  engineRunTime := 0
  engineSecondsTimer := none
  stationary := true
  stationaryTime := 0
  stationaryTimer := none
  stationarySecondsTimer := some 1000000
  openPulse := none
  longPulseTimer := none

/-- An input after reset (R13). The sample before is taken as inactive, a value that no count of 0 reads
(assumption 36). -/
def SwitchState.reset : SwitchState := ⟨.unsettled, 0, false⟩

/-- The Switch Sampler after reset, with these levels on its pins (R13). -/
def Sws.reset (pins : BitVec 12) : Sws where
  inputs := ⟨SwitchState.reset, SwitchState.reset, SwitchState.reset, SwitchState.reset, SwitchState.reset,
    SwitchState.reset, SwitchState.reset, SwitchState.reset, SwitchState.reset, SwitchState.reset,
    SwitchState.reset, SwitchState.reset⟩
  seen := ⟨0, 0, 0⟩
  sampleTimer := some 8000
  pins := pins

/-- A sender's fault record after reset (R20). -/
def SenderFault.reset : SenderFault := ⟨false, none, 0⟩

/-- The Converter after reset, with these analog inputs (R17). -/
def Adc.reset (analog : PerChannel Byte) : Adc where
  readings := ⟨none, none, none, none, none, none, none, none⟩
  fuelLevel := none
  coolantTemp := none
  oilPressure := none
  batteryVoltage := none
  airTemp := none
  faults := ⟨SenderFault.reset, SenderFault.reset, SenderFault.reset⟩
  conversion := none
  analog := analog

/-- The Distance and Fuel Accumulator after a power-on reset, before recovery (R30, R35). -/
def Dfa.reset : Dfa := ⟨0, 0, 0, false, 0, none, 0, none⟩

/-- A trip record reset by recovery (R45). -/
def TripRecord.reset : TripRecord := ⟨⟨0, 0, 0⟩, false, none⟩

/-- An empty slot of the instant window (R58). -/
def Slot.zero : Slot := ⟨0, 0⟩

/-- The Trip Computer after a power-on reset, before recovery (R45, R58). -/
def Trc.reset : Trc where
  trips := ⟨TripRecord.reset, TripRecord.reset, TripRecord.reset, TripRecord.reset⟩
  destinationKm := none
  arrivalArmed := false
  ring := [Slot.zero, Slot.zero, Slot.zero, Slot.zero, Slot.zero, Slot.zero, Slot.zero, Slot.zero]
  current := Slot.zero
  lastRange := none

/-- A gauge after reset (R69). -/
def GaugeRecord.reset : GaugeRecord := ⟨0, 0, .parked, .none, ⟨false, false⟩, ⟨0, 0⟩⟩

/-- The Gauge Driver after reset (R69, R70), before recovery hands it a calibration. -/
def Gdr.reset : Gdr where
  gauges := ⟨GaugeRecord.reset, GaugeRecord.reset, GaugeRecord.reset, GaugeRecord.reset, GaugeRecord.reset⟩
  calibration := romDefaults.forGauges
  refreshTimer := none
  restDelivered := false

/-- A lamp after reset (R114). -/
def LampState.reset : LampState := ⟨false, false, false⟩

/-- The Warning Controller after reset (R93, R98, R100, R104, R109, R114). -/
def Wrc.reset : Wrc where
  levels := ⟨false, false, false, false, false, false, false, false, false, false, false, false, false, false, false⟩
  linkGraceTimer := none
  overspeedSetpoint := 0
  entries := []
  rearQuiet := false
  players := ⟨⟨.idle, none⟩, ⟨.idle, none⟩⟩
  lamps := ⟨LampState.reset, LampState.reset, LampState.reset, LampState.reset, LampState.reset,
    LampState.reset, LampState.reset, LampState.reset, LampState.reset, LampState.reset⟩
  bulbCheck := false
  beltWindow := false

/-- A service item recovered from a bad check (R119), evaluated (R122). -/
def ServiceItem.reset : ServiceItem := ⟨false, 0, 0, 0, 0, 0, false, .inactive⟩

/-- The Service Monitor after a power-on reset, before recovery (R132, R133, R137). -/
def Svm.reset : Svm where
  items := ⟨ServiceItem.reset, ServiceItem.reset, ServiceItem.reset, ServiceItem.reset, ServiceItem.reset,
    ServiceItem.reset⟩
  secondDivider := some 1000000
  timeOfDay := 0
  clockSet := false
  dayTimer := 0
  dayCount := 0

/-- An item of the check record after reset (R139). -/
def ItemRecord.reset : ItemRecord := ⟨.notTested, none, .absent⟩

/-- The two coils of a gauge in the check record after reset (R139). -/
def ItemRecord.resetCoils : PerCoil ItemRecord := ⟨ItemRecord.reset, ItemRecord.reset⟩

/-- The lamps of the check record after reset (R139). -/
def Chk.resetLamps : PerLamp ItemRecord :=
  ⟨ItemRecord.reset, ItemRecord.reset, ItemRecord.reset, ItemRecord.reset, ItemRecord.reset,
   ItemRecord.reset, ItemRecord.reset, ItemRecord.reset, ItemRecord.reset, ItemRecord.reset⟩

/-- The coils of the check record after reset (R139). -/
def Chk.resetCoils : PerGauge (PerCoil ItemRecord) :=
  ⟨ItemRecord.resetCoils, ItemRecord.resetCoils, ItemRecord.resetCoils, ItemRecord.resetCoils,
   ItemRecord.resetCoils⟩

/-- The check record after reset. Before the first judgement of its indication, which R150 puts at the end of recovery, the
indication is no (assumption 49). -/
def Chk.reset : Chk where
  state := .idle
  source := .absent
  currentItem := none
  phase := .none
  driveTime := none
  lamps := Chk.resetLamps
  coils := Chk.resetCoils
  faultCount := 0
  faultIndication := false

/-- The store with these cells after a power-on reset, before recovery. -/
def Nvs.reset (cells : List (Nat × StoreWord)) (unknownCount : Nat) : Nvs where
  cells := cells
  queue := []
  inFlight := none
  cellTimer := none
  ringPointer := 15
  unlockLatch := false
  odometerLock := false
  activeBank := none
  switchInFlight := false
  calFault := false
  formatGood := false
  window := none
  calibration := romDefaults
  draining := false
  recoveryDone := false
  unknownCount := unknownCount

/-- A link port after reset with its default mask (LinkPort table, R180, R184). -/
def LinkPort.reset (mask : NoticeSet) : LinkPort where
  looking := true
  receiveState := .idle
  received := []
  checkSum := 0
  spoiled := false
  gapTimer := none
  waiting := none
  reply := none
  cutOff := none
  present := false
  presenceTimer := none
  charErrors := 0
  discardedMessages := 0
  overruns := 0
  noticeSet := 0
  noticeMask := mask

/-- The Link Ports after reset. Default masks (R184): FRONT all nine kinds; REAR WARNINGS, TRIP, CLOCK,
LINKS and MODE; SERVICE none. -/
def Lnk.reset : Lnk where
  ports := ⟨LinkPort.reset 0x1FF, LinkPort.reset 0x133, LinkPort.reset 0⟩
  restartArmed := false

/-- R180: the Link Ports at a restart: each at its values after reset, but that a reply in transmission on
FRONT or REAR still ends the character being sent; SERVICE's reply, RESTART's own, has ended. -/
def Lnk.restart (n : Lnk) : Lnk where
  ports :=
    ⟨{ LinkPort.reset 0x1FF with cutOff := n.ports.front.reply.or n.ports.front.cutOff },
     { LinkPort.reset 0x133 with cutOff := n.ports.rear.reply.or n.ports.rear.cutOff }, LinkPort.reset 0⟩
  restartArmed := false

/-- The Power Mode Controller after reset, with these levels on the strap pins (R189). -/
def Pmc.reset (strapUnits strapRear : Bool) : Pmc where
  mode := .startup
  imperial := strapUnits
  rearFitted := strapRear
  supplyLow := false
  bulbCheckTimer := none
  beltTimer := none
  shutdownTimer := none
  gaugesAtRest := false
  snapshotWritten := false
  strapUnits := strapUnits
  strapRear := strapRear

/-- The store job of a service item recovered from a bad check in slot `i` (R119, R199): four cells whose
bytes are all 0 but for the check byte 0x5A. -/
def resetItemJob (i : Nat) (progress : Option Nat) : WriteJob :=
  ⟨.cells (64 + 4 * i) [0, 0, 0, 0x5A00], .normal, .internal, progress⟩

/-- The store right after a power-on reset that found every cell erased (R153, R156, R157, R161): the
format job in flight, the day job and the first four service jobs pending. -/
def Nvs.afterReset : Nvs :=
  { Nvs.reset [] 0 with
    queue := [⟨.cells 32 [0, 0xFFFF], .normal, .internal, none⟩, resetItemJob 0 none, resetItemJob 1 none,
      resetItemJob 2 none, resetItemJob 3 none]
    inFlight := some ⟨.cells 91 [0x2610], .normal, .internal, some 91⟩
    cellTimer := some 10000
    calFault := true
    recoveryDone := true }

/-- The machine right after a power-on reset of a part with an erased store, its straps low, the switch
pins at their inactive levels, the analog inputs at 0 and the converter's own reference REF at 255 (R17;
assumptions 3 and 4). -/
def State.reset : State where
  powered := true
  pcu := Pcu.reset
  sws := Sws.reset 0xFFE
  adc := Adc.reset { fuel := 0, coolant := 0, oil := 0, battery := 0, air := 0, sense := 0, ref := 255, spare := 0 }
  dfa := { Dfa.reset with odoLost := true }
  trc := { Trc.reset with lastRange := some none }
  gdr := Gdr.reset
  wrc := Wrc.reset
  svm := Svm.reset
  chk := { Chk.reset with faultIndication := true }
  nvs := Nvs.afterReset
  lnk := Lnk.reset
  pmc := Pmc.reset false false
  pending := []

end Sys2Proof.Machine
end

