-- ==== Sys2Proof/Machine/Ops.lean ====
section
/-! DEFINITION. How a command acts on the machine: on the part alone, and only while the part is kept
alive. -/

namespace Sys2Proof.Machine

open Sys2Proof

/-- A command's effect on the part. While the keep-alive supply is lost the part does nothing (R196,
assumption 5). The queue of waiting commands is no part of it. -/
def State.act (f : Panel → Panel) (s : State) : Host.Outcome State Fault Refusal :=
  .next (if s.powered then { s with toPanel := f s.toPanel } else s)

/-- A timer set running toward an expiry this many microseconds away. -/
def Timer.start (micros : Nat) : Timer := some micros

end Sys2Proof.Machine
end

