-- ==== Sys2Proof/Machine/Access.lean ====
section
/-! DEFINITION. Reading and writing one entry of a record that has an entry for each member of a fixed
set, and the rounding of R1. -/

namespace Sys2Proof.Machine

open Sys2Proof

/-- A switch input (01_signal_inputs_and_measurement, Switch inputs), in pin order. -/
inductive SwitchInput where
  | ignOn | keyIn | doorDrv | doorOther | beltDrv | parkBrake | headlampSw | oilSw | brakeFluid | washerLow
  | rearCall | spare
  deriving DecidableEq, Repr

/-- A trip record, in index order (R44). -/
inductive TripId where
  | tripA | tripB | journey | tank
  deriving DecidableEq, Repr

/-- A service item, by slot (R118). -/
inductive SlotId where
  | s0 | s1 | s2 | s3 | s4 | s5
  deriving DecidableEq, Repr

/-- The entry of a member. -/
def PerLink.get {α : Type} (r : PerLink α) : Link → α
  | .front => r.front
  | .rear => r.rear
  | .service => r.service

/-- The record with one entry replaced. -/
def PerLink.set {α : Type} (r : PerLink α) (k : Link) (v : α) : PerLink α :=
  match k with
  | .front => { r with front := v }
  | .rear => { r with rear := v }
  | .service => { r with service := v }

/-- The record of each member's value. -/
def PerLink.of {α : Type} (f : Link → α) : PerLink α :=
  ⟨f .front, f .rear, f .service⟩

/-- Every entry changed alike. -/
def PerLink.map {α β : Type} (f : α → β) (r : PerLink α) : PerLink β :=
  ⟨f r.front, f r.rear, f r.service⟩

/-- The entry of a member. -/
def PerSender.get {α : Type} (r : PerSender α) : Sender → α
  | .fuel => r.fuel
  | .coolant => r.coolant
  | .oil => r.oil

/-- The record with one entry replaced. -/
def PerSender.set {α : Type} (r : PerSender α) (k : Sender) (v : α) : PerSender α :=
  match k with
  | .fuel => { r with fuel := v }
  | .coolant => { r with coolant := v }
  | .oil => { r with oil := v }

/-- The record of each member's value. -/
def PerSender.of {α : Type} (f : Sender → α) : PerSender α :=
  ⟨f .fuel, f .coolant, f .oil⟩

/-- Every entry changed alike. -/
def PerSender.map {α β : Type} (f : α → β) (r : PerSender α) : PerSender β :=
  ⟨f r.fuel, f r.coolant, f r.oil⟩

/-- The entry of a member. -/
def PerChannel.get {α : Type} (r : PerChannel α) : Channel → α
  | .fuel => r.fuel
  | .coolant => r.coolant
  | .oil => r.oil
  | .battery => r.battery
  | .air => r.air
  | .sense => r.sense
  | .ref => r.ref
  | .spare => r.spare

/-- The record with one entry replaced. -/
def PerChannel.set {α : Type} (r : PerChannel α) (k : Channel) (v : α) : PerChannel α :=
  match k with
  | .fuel => { r with fuel := v }
  | .coolant => { r with coolant := v }
  | .oil => { r with oil := v }
  | .battery => { r with battery := v }
  | .air => { r with air := v }
  | .sense => { r with sense := v }
  | .ref => { r with ref := v }
  | .spare => { r with spare := v }

/-- The record of each member's value. -/
def PerChannel.of {α : Type} (f : Channel → α) : PerChannel α :=
  ⟨f .fuel, f .coolant, f .oil, f .battery, f .air, f .sense, f .ref, f .spare⟩

/-- Every entry changed alike. -/
def PerChannel.map {α β : Type} (f : α → β) (r : PerChannel α) : PerChannel β :=
  ⟨f r.fuel, f r.coolant, f r.oil, f r.battery, f r.air, f r.sense, f r.ref, f r.spare⟩

/-- The entry of a member. -/
def PerSwitch.get {α : Type} (r : PerSwitch α) : SwitchInput → α
  | .ignOn => r.ignOn
  | .keyIn => r.keyIn
  | .doorDrv => r.doorDrv
  | .doorOther => r.doorOther
  | .beltDrv => r.beltDrv
  | .parkBrake => r.parkBrake
  | .headlampSw => r.headlampSw
  | .oilSw => r.oilSw
  | .brakeFluid => r.brakeFluid
  | .washerLow => r.washerLow
  | .rearCall => r.rearCall
  | .spare => r.spare

/-- The record with one entry replaced. -/
def PerSwitch.set {α : Type} (r : PerSwitch α) (k : SwitchInput) (v : α) : PerSwitch α :=
  match k with
  | .ignOn => { r with ignOn := v }
  | .keyIn => { r with keyIn := v }
  | .doorDrv => { r with doorDrv := v }
  | .doorOther => { r with doorOther := v }
  | .beltDrv => { r with beltDrv := v }
  | .parkBrake => { r with parkBrake := v }
  | .headlampSw => { r with headlampSw := v }
  | .oilSw => { r with oilSw := v }
  | .brakeFluid => { r with brakeFluid := v }
  | .washerLow => { r with washerLow := v }
  | .rearCall => { r with rearCall := v }
  | .spare => { r with spare := v }

/-- The record of each member's value. -/
def PerSwitch.of {α : Type} (f : SwitchInput → α) : PerSwitch α :=
  ⟨f .ignOn, f .keyIn, f .doorDrv, f .doorOther, f .beltDrv, f .parkBrake, f .headlampSw, f .oilSw, f .brakeFluid, f .washerLow, f .rearCall, f .spare⟩

/-- Every entry changed alike. -/
def PerSwitch.map {α β : Type} (f : α → β) (r : PerSwitch α) : PerSwitch β :=
  ⟨f r.ignOn, f r.keyIn, f r.doorDrv, f r.doorOther, f r.beltDrv, f r.parkBrake, f r.headlampSw, f r.oilSw, f r.brakeFluid, f r.washerLow, f r.rearCall, f r.spare⟩

/-- The entry of a member. -/
def PerTrip.get {α : Type} (r : PerTrip α) : TripId → α
  | .tripA => r.tripA
  | .tripB => r.tripB
  | .journey => r.journey
  | .tank => r.tank

/-- The record with one entry replaced. -/
def PerTrip.set {α : Type} (r : PerTrip α) (k : TripId) (v : α) : PerTrip α :=
  match k with
  | .tripA => { r with tripA := v }
  | .tripB => { r with tripB := v }
  | .journey => { r with journey := v }
  | .tank => { r with tank := v }

/-- The record of each member's value. -/
def PerTrip.of {α : Type} (f : TripId → α) : PerTrip α :=
  ⟨f .tripA, f .tripB, f .journey, f .tank⟩

/-- Every entry changed alike. -/
def PerTrip.map {α β : Type} (f : α → β) (r : PerTrip α) : PerTrip β :=
  ⟨f r.tripA, f r.tripB, f r.journey, f r.tank⟩

/-- The entry of a member. -/
def PerGauge.get {α : Type} (r : PerGauge α) : Gauge → α
  | .speedo => r.speedo
  | .tacho => r.tacho
  | .fuel => r.fuel
  | .temp => r.temp
  | .oilp => r.oilp

/-- The record with one entry replaced. -/
def PerGauge.set {α : Type} (r : PerGauge α) (k : Gauge) (v : α) : PerGauge α :=
  match k with
  | .speedo => { r with speedo := v }
  | .tacho => { r with tacho := v }
  | .fuel => { r with fuel := v }
  | .temp => { r with temp := v }
  | .oilp => { r with oilp := v }

/-- The record of each member's value. -/
def PerGauge.of {α : Type} (f : Gauge → α) : PerGauge α :=
  ⟨f .speedo, f .tacho, f .fuel, f .temp, f .oilp⟩

/-- Every entry changed alike. -/
def PerGauge.map {α β : Type} (f : α → β) (r : PerGauge α) : PerGauge β :=
  ⟨f r.speedo, f r.tacho, f r.fuel, f r.temp, f r.oilp⟩

/-- The entry of a member. -/
def PerCoil.get {α : Type} (r : PerCoil α) : Coil → α
  | .sin => r.sin
  | .cos => r.cos

/-- The record with one entry replaced. -/
def PerCoil.set {α : Type} (r : PerCoil α) (k : Coil) (v : α) : PerCoil α :=
  match k with
  | .sin => { r with sin := v }
  | .cos => { r with cos := v }

/-- The record of each member's value. -/
def PerCoil.of {α : Type} (f : Coil → α) : PerCoil α :=
  ⟨f .sin, f .cos⟩

/-- Every entry changed alike. -/
def PerCoil.map {α β : Type} (f : α → β) (r : PerCoil α) : PerCoil β :=
  ⟨f r.sin, f r.cos⟩

/-- The entry of a member. -/
def PerLamp.get {α : Type} (r : PerLamp α) : Lamp → α
  | .oil => r.oil
  | .temp => r.temp
  | .brake => r.brake
  | .door => r.door
  | .belt => r.belt
  | .fuel => r.fuel
  | .call => r.call
  | .check => r.check
  | .service => r.service
  | .charge => r.charge

/-- The record with one entry replaced. -/
def PerLamp.set {α : Type} (r : PerLamp α) (k : Lamp) (v : α) : PerLamp α :=
  match k with
  | .oil => { r with oil := v }
  | .temp => { r with temp := v }
  | .brake => { r with brake := v }
  | .door => { r with door := v }
  | .belt => { r with belt := v }
  | .fuel => { r with fuel := v }
  | .call => { r with call := v }
  | .check => { r with check := v }
  | .service => { r with service := v }
  | .charge => { r with charge := v }

/-- The record of each member's value. -/
def PerLamp.of {α : Type} (f : Lamp → α) : PerLamp α :=
  ⟨f .oil, f .temp, f .brake, f .door, f .belt, f .fuel, f .call, f .check, f .service, f .charge⟩

/-- Every entry changed alike. -/
def PerLamp.map {α β : Type} (f : α → β) (r : PerLamp α) : PerLamp β :=
  ⟨f r.oil, f r.temp, f r.brake, f r.door, f r.belt, f r.fuel, f r.call, f r.check, f r.service, f r.charge⟩

/-- The entry of a member. -/
def PerSounder.get {α : Type} (r : PerSounder α) : Sounder → α
  | .front => r.front
  | .rear => r.rear

/-- The record with one entry replaced. -/
def PerSounder.set {α : Type} (r : PerSounder α) (k : Sounder) (v : α) : PerSounder α :=
  match k with
  | .front => { r with front := v }
  | .rear => { r with rear := v }

/-- The record of each member's value. -/
def PerSounder.of {α : Type} (f : Sounder → α) : PerSounder α :=
  ⟨f .front, f .rear⟩

/-- Every entry changed alike. -/
def PerSounder.map {α β : Type} (f : α → β) (r : PerSounder α) : PerSounder β :=
  ⟨f r.front, f r.rear⟩

/-- The entry of a member. -/
def PerSlot.get {α : Type} (r : PerSlot α) : SlotId → α
  | .s0 => r.s0
  | .s1 => r.s1
  | .s2 => r.s2
  | .s3 => r.s3
  | .s4 => r.s4
  | .s5 => r.s5

/-- The record with one entry replaced. -/
def PerSlot.set {α : Type} (r : PerSlot α) (k : SlotId) (v : α) : PerSlot α :=
  match k with
  | .s0 => { r with s0 := v }
  | .s1 => { r with s1 := v }
  | .s2 => { r with s2 := v }
  | .s3 => { r with s3 := v }
  | .s4 => { r with s4 := v }
  | .s5 => { r with s5 := v }

/-- The record of each member's value. -/
def PerSlot.of {α : Type} (f : SlotId → α) : PerSlot α :=
  ⟨f .s0, f .s1, f .s2, f .s3, f .s4, f .s5⟩

/-- Every entry changed alike. -/
def PerSlot.map {α β : Type} (f : α → β) (r : PerSlot α) : PerSlot β :=
  ⟨f r.s0, f r.s1, f r.s2, f r.s3, f r.s4, f r.s5⟩

/-- The three links in order. -/
def allLinks : List Link :=
  [.front, .rear, .service]

/-- The twelve inputs in pin order. -/
def allInputs : List SwitchInput :=
  [.ignOn, .keyIn, .doorDrv, .doorOther, .beltDrv, .parkBrake, .headlampSw, .oilSw, .brakeFluid, .washerLow, .rearCall, .spare]

/-- The four records in index order. -/
def allTrips : List TripId :=
  [.tripA, .tripB, .journey, .tank]

/-- The five gauges in order. -/
def allGauges : List Gauge :=
  [.speedo, .tacho, .fuel, .temp, .oilp]

/-- The ten lamps in order. -/
def allLamps : List Lamp :=
  [.oil, .temp, .brake, .door, .belt, .fuel, .call, .check, .service, .charge]

/-- The six slots in order. -/
def allSlots : List SlotId :=
  [.s0, .s1, .s2, .s3, .s4, .s5]

/-- The three senders in order. -/
def allSenders : List Sender :=
  [.fuel, .coolant, .oil]

/-- The eight channels in conversion order. -/
def allChannels : List Channel :=
  [.fuel, .coolant, .oil, .battery, .air, .sense, .ref, .spare]

/-- The number of a member, from 0. -/
def SwitchInput.idx : SwitchInput → Nat
  | .ignOn => 0
  | .keyIn => 1
  | .doorDrv => 2
  | .doorOther => 3
  | .beltDrv => 4
  | .parkBrake => 5
  | .headlampSw => 6
  | .oilSw => 7
  | .brakeFluid => 8
  | .washerLow => 9
  | .rearCall => 10
  | .spare => 11

/-- The number of a member, from 0. -/
def TripId.idx : TripId → Nat
  | .tripA => 0
  | .tripB => 1
  | .journey => 2
  | .tank => 3

/-- The number of a member, from 0. -/
def SlotId.idx : SlotId → Nat
  | .s0 => 0
  | .s1 => 1
  | .s2 => 2
  | .s3 => 3
  | .s4 => 4
  | .s5 => 5

/-- The record with this index; none for 4 or more (R44). -/
def TripId.ofIdx : Nat → Option TripId
  | 0 => some .tripA
  | 1 => some .tripB
  | 2 => some .journey
  | 3 => some .tank
  | _ => none

/-- The slot with this number; none for 6 or more (R118). -/
def SlotId.ofIdx : Nat → Option SlotId
  | 0 => some .s0
  | 1 => some .s1
  | 2 => some .s2
  | 3 => some .s3
  | 4 => some .s4
  | 5 => some .s5
  | _ => none

/-- R1: n / d to the nearest integer, halves upward. -/
def roundDiv (n d : Nat) : Nat := (2 * n + d) / (2 * d)

/-- `n` limited to at most `limit` ("clamped at", "saturating at"). -/
def clampAt (limit n : Nat) : Nat := min n limit

/-- The time from capture `a` to capture `b`, modulo 2^24 (00_scope, Arithmetic). -/
def elapsed (a b : Micros) : Nat := (b - a).toNat

end Sys2Proof.Machine
end

