-- ==== Sys2Proof/Machine/Flags.lean ====
section
/-! DEFINITION. Notices, masks and attention lines (R184), and the sets of flags read from the switch
inputs and the senders. -/

namespace Sys2Proof.Machine

open Sys2Proof

/-- The nine notice kinds, in the order of R184's table and of the mask bits (R198). -/
inductive NoticeKind where
  | warnings | trip | service | check | clock | links | inputs | store | mode
  deriving DecidableEq, Repr

/-- The bit of a notice kind (R198). -/
def NoticeKind.bit : NoticeKind → NoticeSet
  | .warnings => 0x001
  | .trip => 0x002
  | .service => 0x004
  | .check => 0x008
  | .clock => 0x010
  | .links => 0x020
  | .inputs => 0x040
  | .store => 0x080
  | .mode => 0x100

/-- R184: a notice posted to a link joins its set, once. -/
def LinkPort.notify (k : NoticeKind) (port : LinkPort) : LinkPort :=
  { port with noticeSet := port.noticeSet ||| k.bit }

/-- The part with its link ports replaced. -/
def Panel.withPorts (ports : PerLink LinkPort) (p : Panel) : Panel :=
  { p with lnk := { p.lnk with ports := ports } }

/-- The part with one link port replaced. -/
def Panel.withPort (l : Link) (port : LinkPort) (p : Panel) : Panel :=
  p.withPorts (p.lnk.ports.set l port)

/-- A notice posted to one link (R184). -/
def notifyLink (k : NoticeKind) (l : Link) (p : Panel) : Panel :=
  p.withPort l ((p.lnk.ports.get l).notify k)

/-- A notice posted to all three links (R184). -/
def notifyAll (k : NoticeKind) (p : Panel) : Panel :=
  p.withPorts (PerLink.map (LinkPort.notify k) p.lnk.ports)

/-- A notice posted to every link except one (R184). -/
def notifyOthers (k : NoticeKind) (l : Link) (p : Panel) : Panel :=
  p.withPorts ((PerLink.map (LinkPort.notify k) p.lnk.ports).set l (p.lnk.ports.get l))

/-- R184: the attention line is low while the set and the mask have a kind in common. -/
def LinkPort.attentionLow (port : LinkPort) : Bool := port.noticeSet &&& port.noticeMask != 0

/-- R13: whether an input reads as ACTIVE; an UNSETTLED input reads as INACTIVE. -/
def inputActive (p : Panel) (i : SwitchInput) : Bool := (p.sws.inputs.get i).accepted == .active

/-- R20: whether a sender's fault flag is set. -/
def senderFault (p : Panel) (s : Sender) : Bool := (p.adc.faults.get s).flag

/-- The bit of a switch input in a set of inputs (R198). -/
def SwitchInput.bit (i : SwitchInput) : InputSet := BitVec.ofNat 12 (2 ^ i.idx)

/-- Whether the pin of an input stands at its ACTIVE level: low, but high for IGN_ON
(01_signal_inputs_and_measurement, Switch inputs). -/
def pinActive (pins : BitVec 12) (i : SwitchInput) : Bool :=
  match i with
  | .ignOn => pins.getLsbD 0
  | i => !pins.getLsbD i.idx

end Sys2Proof.Machine
end

