-- ==== Sys2Proof/Machine/Timing.lean ====
section
/-! DEFINITION. The intervals the rules state, in microseconds of the timebase. -/

namespace Sys2Proof.Machine

/-- Minimum spacing of accepted edges (R3). -/
def minSpacing : PulseChannel → Nat
  | .spd => 200
  | .eng => 500

/-- Quiet limit of a pulse channel (R3, R7). -/
def quietLimit : PulseChannel → Nat
  | .spd => 1000000
  | .eng => 500000

/-- Gate period (R5). -/
def gatePeriod : Nat := 125000
/-- Time from the last accepted SPD edge to the stationary expiry (R11). -/
def stationaryDelay : Nat := 2000000
/-- One second: the engine-seconds and stationary-seconds timers and the second divider (R10, R11, R132). -/
def oneSecond : Nat := 1000000
/-- Long-pulse limit (R12). -/
def longPulseLimit : Nat := 25000
/-- Switch sampling interval of each mode (R14). -/
def sampleInterval : Mode → Nat
  | .standby => 64000
  | _ => 8000
/-- Length of one conversion (R17). -/
def conversionTime : Nat := 2000
/-- Persistence of an out-of-range sender (R20). -/
def persistenceTime : Nat := 2000000
/-- Fuel-sample interval (R36). -/
def fuelSampleInterval : Nat := 2000000
/-- Refresh interval (R70). -/
def refreshInterval : Nat := 15625
/-- Link grace (R97). -/
def linkGraceTime : Nat := 2000000
/-- Length of REST (R109). -/
def restTime : Nat := 150000
/-- Programming time of one cell (R152). -/
def cellTime : Nat := 10000
/-- Time a drive must stand before the conversion that ends its step begins (R142). -/
def settleTime : Nat := 8000
/-- Gap that abandons a message (R176). -/
def gapTime : Nat := 10000
/-- Length of one character on a link (R173). -/
def characterTime : Nat := 1408
/-- Presence time (R182). -/
def presenceTime : Nat := 2000000
/-- Length of the bulb check (R193). -/
def bulbCheckTime : Nat := 3000000
/-- Length of the belt window (R193). -/
def beltTime : Nat := 6000000
/-- Time limit of parking (R195). -/
def shutdownTime : Nat := 2000000

end Sys2Proof.Machine
end

