-- ==== Sys2Proof/Machine/WarningKinds.lean ====
section
/-! DEFINITION. The fixed attributes of the fifteen warning kinds (R92) and the chime patterns (R109). -/

namespace Sys2Proof.Machine

open Sys2Proof

/-- The number of a kind, which is its priority (R92). -/
def kindNumber : WarningKind → Nat
  | .oilPressure => 1
  | .overheat => 2
  | .brake => 3
  | .doorMoving => 4
  | .keyLeft => 5
  | .lightsLeft => 6
  | .seatBelt => 7
  | .overspeed => 8
  | .lowFuel => 9
  | .rearCall => 10
  | .checkFault => 11
  | .serviceDue => 12
  | .linkLost => 13
  | .battery => 14
  | .arrival => 15

/-- The fifteen kinds in priority order. -/
def allKinds : List WarningKind :=
  [.oilPressure, .overheat, .brake, .doorMoving, .keyLeft, .lightsLeft, .seatBelt, .overspeed, .lowFuel,
   .rearCall, .checkFault, .serviceDue, .linkLost, .battery, .arrival]

/-- The kind with this number (R105). -/
def kindOf (n : Nat) : Option WarningKind := allKinds.find? (fun k => kindNumber k == n)

/-- Whether a kind is an EVENT kind (R92). -/
def isEvent : WarningKind → Bool
  | .rearCall | .arrival => true
  | _ => false

/-- The STATE kinds in priority order. -/
def stateKinds : List WarningKind := allKinds.filter (fun k => !isEvent k)

/-- Whether a mode is one of the kind's modes (R92). -/
def kindMode (k : WarningKind) (m : Mode) : Bool :=
  match k with
  | .keyLeft | .lightsLeft => m == .shutdown || m == .standby
  | .rearCall => m == .run || m == .shutdown || m == .standby
  | _ => m == .run

/-- The kind's sounder set (R92). -/
def kindSounders : WarningKind → PerSounder Bool
  | .doorMoving => ⟨true, true⟩
  | .arrival => ⟨false, true⟩
  | _ => ⟨true, false⟩

/-- The chime patterns (R109). -/
inductive Pattern where
  | urgent | steady | single | double
  deriving DecidableEq, Repr

/-- The kind's pattern (R92). -/
def kindPattern : WarningKind → Pattern
  | .oilPressure | .overheat | .brake => .urgent
  | .doorMoving | .keyLeft | .lightsLeft | .seatBelt => .steady
  | .rearCall | .arrival => .double
  | _ => .single

/-- Whether the kind plays CONTINUOUS; the others play ONCE (R92). -/
def isContinuous (k : WarningKind) : Bool := kindNumber k ≤ 7

/-- The kind's re-sound interval in microseconds (R92). -/
def resoundInterval : WarningKind → Option Nat
  | .overheat => some 60000000
  | .overspeed => some 30000000
  | .lowFuel => some 600000000
  | .rearCall => some 20000000
  | _ => none

/-- Whether the kind may be acknowledged (R92). -/
def isAckable : WarningKind → Bool
  | .oilPressure | .brake | .doorMoving | .seatBelt => false
  | _ => true

/-- Whether the kind is latching (R92). -/
def isLatching (k : WarningKind) : Bool := k == .rearCall

/-- The kind whose entry lights a lamp (R92). -/
def lampKind : Lamp → WarningKind
  | .oil => .oilPressure
  | .temp => .overheat
  | .brake => .brake
  | .door => .doorMoving
  | .belt => .seatBelt
  | .fuel => .lowFuel
  | .call => .rearCall
  | .check => .checkFault
  | .service => .serviceDue
  | .charge => .battery

/-- Whether WarningEnable lets the kind be raised; kinds 1 to 4 are always enabled (R92). -/
def kindEnabled (enable : BitVec 11) (k : WarningKind) : Bool :=
  kindNumber k < 5 || enable.getLsbD (kindNumber k - 5)

/-- R109: the number of steps of a pattern. -/
def patternLength : Pattern → Nat
  | .urgent | .steady | .double => 2
  | .single => 5

/-- R109: whether a step of a pattern is a strike; otherwise it is a gap. -/
def isStrike : Pattern → Nat → Bool
  | .double, _ => true
  | _, n => n % 2 == 1

/-- R109: the length of a step of a pattern, in microseconds. -/
def stepLength : Pattern → Nat → Nat
  | .urgent, _ => 150000
  | .steady, _ => 300000
  | .single, _ => 300000
  | .double, n => if n = 1 then 400000 else 600000

/-- R109: whether a sounder's square wave during a step is the 1,000 Hz one; a low strike is 800 Hz. -/
def isHighStrike : Pattern → Nat → Bool
  | .double, n => n == 1
  | _, _ => true

end Sys2Proof.Machine
end

