-- ==== Sys2Proof/Machine/Warnings.lean ====
section
/-! DEFINITION. The Warning Controller's shared operations: the sounder players (R109 to R111), the lamps
(R114, R115), the active warning list (R100 to R104) and the judgement of the condition levels (R93 to
R97). -/

namespace Sys2Proof.Machine

open Sys2Proof

/-- The part with its Warning Controller replaced. -/
def Panel.withWrc (w : Wrc) (p : Panel) : Panel := { p with wrc := w }

/-! ### The list -/

/-- The entry of a kind. -/
def Wrc.entry (w : Wrc) (k : WarningKind) : Option WarningEntry := w.entries.find? (fun e => e.kind == k)

/-- Whether the list holds an entry of a kind. -/
def Wrc.present (w : Wrc) (k : WarningKind) : Bool := w.entries.any (fun e => e.kind == k)

/-- R100: the list with an entry at its place in priority order; it replaces one of the same kind. -/
def insertEntry (e : WarningEntry) : List WarningEntry → List WarningEntry
  | [] => [e]
  | f :: rest =>
    if kindNumber e.kind < kindNumber f.kind then e :: f :: rest
    else if kindNumber e.kind = kindNumber f.kind then e :: rest
    else f :: insertEntry e rest

/-- The list with the entry of a kind changed. -/
def Wrc.modifyEntry (w : Wrc) (k : WarningKind) (f : WarningEntry → WarningEntry) : Wrc :=
  { w with entries := w.entries.map (fun e => if e.kind == k then f e else e) }

/-- R102, R111: a player when the entry of a kind is removed: a strike begun for it finishes, and its pattern goes no
further, whatever is raised before the strike ends. -/
def Player.abandon (k : WarningKind) (pl : Player) : Player :=
  match pl.state with
  | .strike j step => if j = k then { pl with state := .ending j step } else pl
  | _ => pl

/-- The list without the entry of a kind. -/
def Wrc.dropEntry (w : Wrc) (k : WarningKind) : Wrc :=
  { w with entries := w.entries.filter (fun e => e.kind != k), players := PerSounder.map (Player.abandon k) w.players }

/-- R110: a player's selection: the first entry whose Pending holds its sounder. -/
def Wrc.selection (w : Wrc) (sd : Sounder) : Option WarningKind :=
  (w.entries.find? (fun e => e.pending.get sd)).map WarningEntry.kind

/-! ### The players (R109 to R111) -/

/-- A player at a step of a kind's pattern. -/
def playStep (k : WarningKind) (step : Nat) : Player :=
  ⟨if isStrike (kindPattern k) step then .strike k step else .gap k step,
   some (stepLength (kindPattern k) step)⟩

/-- A player that plays nothing. -/
def Player.idle : Player := ⟨.idle, none⟩

/-- R110: a player that starts a selection's pattern at its first step, or is IDLE with no selection. -/
def startSelection : Option WarningKind → Player
  | some k => playStep k 1
  | none => Player.idle

/-- R111: a player that goes to REST if it has a selection, and to IDLE if it has none. -/
def restOrIdle : Option WarningKind → Player
  | some _ => ⟨.rest, some restTime⟩
  | none => Player.idle

/-- R110, R111: what a player does when its selection may have changed. -/
def Player.settle (selection : Option WarningKind) (pl : Player) : Player :=
  match pl.state with
  | .idle => match selection with
    | some k => playStep k 1
    | none => pl
  | .strike _ _ | .ending _ _ => pl
  | .gap k _ => if selection = some k then pl else startSelection selection
  | .rest => if selection = none then Player.idle else pl

/-- Both players after a change of the list. -/
def Wrc.settlePlayers (w : Wrc) : Wrc :=
  { w with players := PerSounder.of fun sd => (w.players.get sd).settle (w.selection sd) }

/-! ### The lamps (R114, R115) -/

/-- R114: whether a lamp is Wanted on. -/
def lampWanted (p : Panel) (l : Lamp) : Bool :=
  match p.pmc.mode with
  | .run => p.wrc.bulbCheck || p.wrc.present (lampKind l) || (l == .belt && !inputActive p .beltDrv)
  | .startup => false
  | .shutdown | .standby => l == .call && p.wrc.present .rearCall

/-- R115: whether the Check Sequencer drives a lamp's output itself. -/
def lampUnderTest (p : Panel) (l : Lamp) : Bool :=
  p.chk.phase == .driven && p.chk.currentItem == some (.lamp l)

/-- R114, R115: a lamp judged afresh. -/
def judgeLamp (p : Panel) (l : Lamp) : LampState :=
  let blocked := (p.wrc.lamps.get l).blocked
  ⟨lampWanted p l, blocked, lampUnderTest p l || (lampWanted p l && !blocked)⟩

/-- All ten lamps judged afresh. -/
def settleLamps (p : Panel) : Panel := p.withWrc { p.wrc with lamps := PerLamp.of (judgeLamp p) }

/-- The players and the lamps brought in line with the list. -/
def settleWarnings (p : Panel) : Panel := settleLamps (p.withWrc p.wrc.settlePlayers)

/-! ### Raising, removing (R100 to R104) -/

/-- R104: whether RearQuiet withholds a sounder from a kind. -/
def Wrc.withholds (w : Wrc) (k : WarningKind) (sd : Sounder) : Bool :=
  w.rearQuiet && sd == .rear && decide (5 ≤ kindNumber k)

/-- R100: the sounders a kind is inserted pending for. -/
def Wrc.freshPending (w : Wrc) (k : WarningKind) : PerSounder Bool :=
  PerSounder.of fun sd => (kindSounders k).get sd && !w.withholds k sd

/-- R100: a fresh entry of a kind. -/
def freshEntry (p : Panel) (k : WarningKind) : WarningEntry :=
  ⟨k, true, p.wrc.freshPending k, ⟨false, false⟩, none, p.svm.timeOfDay⟩

/-- R100: a STATE kind whose level becomes TRUE is inserted, and notice WARNINGS goes to all links. -/
def raiseState (k : WarningKind) (p : Panel) : Panel :=
  notifyAll .warnings (p.withWrc { p.wrc with entries := insertEntry (freshEntry p k) p.wrc.entries })

/-- R103: the four conditions under which an entry is removed. -/
def WarningEntry.finished (e : WarningEntry) : Bool :=
  !e.conditionPresent && !e.pending.front && !e.pending.rear && e.resound.isNone &&
  (!isLatching e.kind ||
    ((!(kindSounders e.kind).front || e.acked.front) && (!(kindSounders e.kind).rear || e.acked.rear)))

/-- R103: an entry removed, with notice WARNINGS to all links. -/
def removeEntry (k : WarningKind) (p : Panel) : Panel :=
  notifyAll .warnings (p.withWrc (p.wrc.dropEntry k))

/-- R103: the entry of a kind judged for removal. -/
def judgeRemoval (k : WarningKind) (p : Panel) : Panel :=
  match p.wrc.entry k with
  | some e => if e.finished then removeEntry k p else p
  | none => p

/-- R102: a STATE kind whose level becomes FALSE. -/
def lowerState (k : WarningKind) (p : Panel) : Panel :=
  judgeRemoval k (p.withWrc (p.wrc.modifyEntry k fun e =>
    { e with conditionPresent := false, pending := ⟨false, false⟩, resound := none }))

/-- R101: the entry of an EVENT kind raised again: each sounder not withheld joins Pending and leaves Acked,
and its re-sound timer is cancelled. -/
def WarningEntry.raiseAgain (w : Wrc) (e : WarningEntry) : WarningEntry :=
  let again := w.freshPending e.kind
  { e with
    pending := ⟨e.pending.front || again.front, e.pending.rear || again.rear⟩
    acked := ⟨e.acked.front && !again.front, e.acked.rear && !again.rear⟩
    resound := if again.front then none else e.resound }

/-- R99, R101: an EVENT kind raised: discarded when disabled or outside its modes, inserted when the list
holds no entry of it, and otherwise raised again. -/
def raiseEvent (k : WarningKind) (p : Panel) : Panel :=
  if !(kindEnabled p.nvs.calibration.warningEnable k && kindMode k p.pmc.mode) then p
  else if p.wrc.present k then
    settleWarnings (notifyAll .warnings (p.withWrc (p.wrc.modifyEntry k (WarningEntry.raiseAgain p.wrc))))
  else
    settleWarnings (judgeRemoval k (notifyAll .warnings (p.withWrc
      { p.wrc with entries := insertEntry { freshEntry p k with conditionPresent := false } p.wrc.entries })))

/-! ### The condition levels (R93 to R97) -/

/-- The level of a STATE kind. -/
def ConditionLevels.get (c : ConditionLevels) : WarningKind → Bool
  | .oilPressure => c.oilPressure
  | .overheat => c.overheat
  | .brake => c.brake
  | .doorMoving => c.doorMoving
  | .keyLeft => c.keyLeft
  | .lightsLeft => c.lightsLeft
  | .seatBelt => c.seatBelt
  | .overspeed => c.overspeed
  | .lowFuel => c.lowFuel
  | .checkFault => c.checkFault
  | .serviceDue => c.serviceDue
  | .linkLost => c.linkLost
  | .battery => c.battery
  | .rearCall | .arrival => false

/-- The levels with one kind's level replaced. -/
def ConditionLevels.set (c : ConditionLevels) (k : WarningKind) (v : Bool) : ConditionLevels :=
  match k with
  | .oilPressure => { c with oilPressure := v }
  | .overheat => { c with overheat := v }
  | .brake => { c with brake := v }
  | .doorMoving => { c with doorMoving := v }
  | .keyLeft => { c with keyLeft := v }
  | .lightsLeft => { c with lightsLeft := v }
  | .seatBelt => { c with seatBelt := v }
  | .overspeed => { c with overspeed := v }
  | .lowFuel => { c with lowFuel := v }
  | .checkFault => { c with checkFault := v }
  | .serviceDue => { c with serviceDue := v }
  | .linkLost => { c with linkLost := v }
  | .battery => { c with battery := v }
  | .rearCall | .arrival => c

/-- R93: whether a kind's level can be TRUE: its mode and its enable. -/
def kindActive (p : Panel) (k : WarningKind) : Bool :=
  kindEnabled p.nvs.calibration.warningEnable k && kindMode k p.pmc.mode

/-- A comparison that an absent value does not satisfy (R93). -/
def holdsOf {α : Type} (v : Option α) (test : α → Bool) : Bool :=
  match v with
  | some x => test x
  | none => false

/-- Whether a due state is DUE or OVERDUE. -/
def DueState.isDue : DueState → Bool
  | .due | .overdue => true
  | _ => false

/-- R124: the SERVICE_DUE indication: some item is DUE or OVERDUE. -/
def serviceDueIndication (p : Panel) : Bool := allSlots.any (fun i => (p.svm.items.get i).state.isDue)

/-- The range last delivered to the Warning Controller (R65). -/
def deliveredRange (p : Panel) : Option Nat := p.trc.lastRange.getD none

/-- The set test of a STATE kind (R94 to R97); BATTERY's is over its two parts, judged before it. -/
def setTest (p : Panel) : WarningKind → Bool
  | .oilPressure =>
    decide (5 ≤ p.pcu.engineRunTime) &&
    (inputActive p .oilSw ||
      (!senderFault p .oil && holdsOf p.adc.oilPressure (fun v => decide (v < p.nvs.calibration.oilLowThreshold))))
  | .overheat =>
    !senderFault p .coolant && holdsOf p.adc.coolantTemp (fun v => decide ((p.nvs.calibration.hotThreshold : Int) ≤ v))
  | .brake => inputActive p .brakeFluid || (inputActive p .parkBrake && decide (50 ≤ p.pcu.speedV))
  | .doorMoving => (inputActive p .doorDrv || inputActive p .doorOther) && decide (50 ≤ p.pcu.speedV)
  | .keyLeft => inputActive p .keyIn && !inputActive p .ignOn && inputActive p .doorDrv
  | .lightsLeft => inputActive p .headlampSw && !inputActive p .ignOn && inputActive p .doorDrv
  | .seatBelt => p.wrc.beltWindow && !inputActive p .beltDrv
  | .overspeed => p.wrc.overspeedSetpoint != 0 && decide (p.wrc.overspeedSetpoint ≤ p.pcu.speedV)
  | .lowFuel =>
    holdsOf p.dfa.estimate (fun e => decide (e ≤ p.nvs.calibration.fuelReserve)) ||
    holdsOf (deliveredRange p) (fun r => decide (r < 50))
  | .checkFault => p.chk.faultIndication
  | .serviceDue => serviceDueIndication p
  | .linkLost =>
    p.wrc.linkGraceTimer.isNone &&
    (!p.lnk.ports.front.present || (p.pmc.rearFitted && !p.lnk.ports.rear.present))
  | .battery => p.wrc.levels.batteryLow || p.wrc.levels.batteryHigh
  | .rearCall | .arrival => false

/-- The clear test of a STATE kind (R94 to R97). A kind without hysteresis clears when its set test fails. -/
def clearTest (p : Panel) : WarningKind → Bool
  | .overheat =>
    senderFault p .coolant ||
    holdsOf p.adc.coolantTemp (fun v => decide (v ≤ (p.nvs.calibration.hotThreshold : Int) - 3))
  | .doorMoving => (!inputActive p .doorDrv && !inputActive p .doorOther) || decide (p.pcu.speedV < 30)
  | .overspeed => p.wrc.overspeedSetpoint == 0 || decide (p.pcu.speedV + 30 < p.wrc.overspeedSetpoint)
  | .lowFuel =>
    holdsOf p.dfa.estimate (fun e => decide (p.nvs.calibration.fuelReserve + 20 < e)) &&
    holdsOf (deliveredRange p) (fun r => decide (60 ≤ r))
  | k => !setTest p k

/-- R93: a level with hysteresis: TRUE until the clear test holds, FALSE until the set test holds. -/
def nextLevel (p : Panel) (k : WarningKind) : Bool :=
  if !kindActive p k then false
  else if p.wrc.levels.get k then !clearTest p k
  else setTest p k

/-- R94: BatteryLow judged afresh. -/
def nextBatteryLow (p : Panel) : Bool :=
  if !kindActive p .battery then false
  else if p.wrc.levels.batteryLow then
    !(holdsOf p.adc.batteryVoltage (fun v => decide (118 ≤ v)) || decide (p.pcu.engineRunTime < 10))
  else holdsOf p.adc.batteryVoltage (fun v => decide (v < 115)) && decide (10 ≤ p.pcu.engineRunTime)

/-- R94: BatteryHigh judged afresh. -/
def nextBatteryHigh (p : Panel) : Bool :=
  if !kindActive p .battery then false
  else if p.wrc.levels.batteryHigh then !holdsOf p.adc.batteryVoltage (fun v => decide (v ≤ 152))
  else holdsOf p.adc.batteryVoltage (fun v => decide (155 < v))

/-- R94: the two parts of BATTERY judged afresh. -/
def judgeBatteryParts (p : Panel) : Panel :=
  p.withWrc { p.wrc with levels :=
    { p.wrc.levels with batteryLow := nextBatteryLow p, batteryHigh := nextBatteryHigh p } }

/-- R93: a STATE kind judged afresh: a change of its level raises the kind or is handled as R102 states. -/
def judgeKind (k : WarningKind) (p : Panel) : Panel :=
  let level := nextLevel p k
  if level = p.wrc.levels.get k then p
  else
    let p := p.withWrc { p.wrc with levels := p.wrc.levels.set k level }
    if level then raiseState k p else lowerState k p

/-- R93: every STATE kind judged afresh, in priority order (assumption 14). -/
def judgeLevels (p : Panel) : Panel := stateKinds.foldl (fun q k => judgeKind k q) (judgeBatteryParts p)

/-- R93, R113, R114: every STATE kind judged afresh, and then, over the list as it then stands, the players and the
lamps (assumption 14). A judgement that finds nothing changed changes nothing, so this stands wherever an input may have
changed. -/
def judgeWarnings (p : Panel) : Panel := settleWarnings (judgeLevels p)

/-- R116: the Warning Controller takes a new working calibration: every STATE kind is judged afresh, the entry of a kind
now disabled is removed, whatever holds it, and the players and the lamps follow once both are done (assumption 14). -/
def takeCalibrationWarnings (p : Panel) : Panel :=
  settleWarnings (allKinds.foldl
    (fun q k =>
      if q.wrc.present k && !kindEnabled q.nvs.calibration.warningEnable k then removeEntry k q else q)
    (judgeLevels p))

end Sys2Proof.Machine
end

