-- ==== Sys2Proof/Machine/Chimes.lean ====
section
/-! DEFINITION. The ends of strikes, gaps and rests, pattern completion and the re-sound expiry (R107, R111,
R112). -/

namespace Sys2Proof.Machine

open Sys2Proof

/-- Whether an entry of a kind holds a sounder in Pending. -/
def Wrc.pendingFor (w : Wrc) (k : WarningKind) (sd : Sounder) : Bool :=
  w.entries.any fun e => e.kind == k && e.pending.get sd

/-- The Warning Controller with one player replaced. -/
def Wrc.setPlayer (w : Wrc) (sd : Sounder) (pl : Player) : Wrc := { w with players := w.players.set sd pl }

/-- R112: a ONCE pattern completes: the sounder leaves Pending, and the re-sound timer of a kind that has an
interval starts. The timer serves sounder F (R100). -/
def WarningEntry.complete (sd : Sounder) (e : WarningEntry) : WarningEntry :=
  { e with
    pending := e.pending.set sd false
    resound := match resoundInterval e.kind, sd with
      | some interval, .front => Timer.start interval
      | _, _ => e.resound }

/-- A player put to REST if it has a selection, and to IDLE if it has none (R111). -/
def endPattern (sd : Sounder) (p : Panel) : Panel :=
  p.withWrc (p.wrc.setPlayer sd (restOrIdle (p.wrc.selection sd)))

/-- R111: the end of a strike: completion, continuation or change, judged in that order. A strike whose entry has been
removed changes, whatever entry its kind has then (R102). -/
def strikeEnd (sd : Sounder) (p : Panel) : Panel :=
  match (p.wrc.players.get sd).state with
  | .strike k step =>
    let last := patternLength (kindPattern k) ≤ step
    if !isContinuous k && last && p.wrc.pendingFor k sd then
      settleWarnings (endPattern sd
        (judgeRemoval k (p.withWrc (p.wrc.modifyEntry k (WarningEntry.complete sd)))))
    else if p.wrc.selection sd = some k then
      p.withWrc (p.wrc.setPlayer sd (playStep k (if last then 1 else step + 1)))
    else endPattern sd p
  | .ending _ _ => endPattern sd p
  | _ => p

/-- R111: the end of a gap: the pattern's next strike. -/
def gapEnd (sd : Sounder) (p : Panel) : Panel :=
  match (p.wrc.players.get sd).state with
  | .gap k step =>
    p.withWrc (p.wrc.setPlayer sd
      (playStep k (if patternLength (kindPattern k) ≤ step then 1 else step + 1)))
  | _ => p

/-- R111: the end of REST: the selection's pattern from its first step. -/
def restEnd (sd : Sounder) (p : Panel) : Panel :=
  match (p.wrc.players.get sd).state with
  | .rest => p.withWrc (p.wrc.setPlayer sd (startSelection (p.wrc.selection sd)))
  | _ => p

/-- R107: an entry after its re-sound timer's expiry. -/
def WarningEntry.resoundNow (e : WarningEntry) : WarningEntry :=
  if e.conditionPresent || (isLatching e.kind && !e.acked.front) then
    { e with
      pending := { e.pending with front := true }
      acked := { e.acked with front := false }
      resound := none }
  else { e with resound := none }

/-- R107: a re-sound timer's expiry. It posts no notice but for a removal. -/
def resoundExpiry (k : WarningKind) (p : Panel) : Panel :=
  match p.wrc.entry k with
  | none => p
  | some e =>
    if e.resound.isSome then
      settleWarnings (judgeRemoval k (p.withWrc (p.wrc.modifyEntry k WarningEntry.resoundNow)))
    else p

/-- STRIKE_END (R111, R112). -/
def execStrikeEnd (sd : Sounder) (s : State) : Host.Outcome State Fault Refusal := s.act (strikeEnd sd)
/-- GAP_END (R111). -/
def execGapEnd (sd : Sounder) (s : State) : Host.Outcome State Fault Refusal := s.act (gapEnd sd)
/-- REST_END (R111). -/
def execRestEnd (sd : Sounder) (s : State) : Host.Outcome State Fault Refusal := s.act (restEnd sd)
/-- RESOUND_EXPIRY (R107). -/
def execResoundExpiry (k : WarningKind) (s : State) : Host.Outcome State Fault Refusal := s.act (resoundExpiry k)

end Sys2Proof.Machine
end

