-- ==== Sys2Proof/Machine/Memory.lean ====
section
/-! DEFINITION. The 512 cells of the store as a list of the cells that differ from an erased one, addresses
rising (R152). -/

namespace Sys2Proof.Machine.Memory

open Sys2Proof

/-- R152: an erased cell reads 0xFFFF. A cell that the list does not hold is erased. -/
def erased : StoreWord := 0xFFFF

/-- How many cells the store holds (R152). -/
def size : Nat := 512

/-- The content of a cell. -/
def read : List (Nat × StoreWord) → Nat → StoreWord
  | [], _ => erased
  | (a, v) :: rest, i => if a = i then v else read rest i

/-- The cells with one cell's content replaced; an erased content is not listed. -/
def write (i : Nat) (v : StoreWord) : List (Nat × StoreWord) → List (Nat × StoreWord)
  | [] => if v = erased then [] else [(i, v)]
  | (a, w) :: rest =>
    if i < a then (if v = erased then (a, w) :: rest else (i, v) :: (a, w) :: rest)
    else if i = a then (if v = erased then rest else (a, v) :: rest)
    else (a, w) :: write i v rest

/-- Addresses from `lo` on, strictly rising, inside the store, and no erased content. -/
def wfFrom (lo : Nat) : List (Nat × StoreWord) → Bool
  | [] => true
  | (a, v) :: rest => decide (lo ≤ a) && decide (a < size) && (v != erased) && wfFrom (a + 1) rest

/-- The canonical form: equal contents are equal lists. -/
def wf (cells : List (Nat × StoreWord)) : Bool := wfFrom 0 cells

end Sys2Proof.Machine.Memory
end

