-- ==== Sys2Proof/Machine/Calibration.lean ====
section
/-! DEFINITION. Curves (R19, R73), the layout of a calibration bank (R200) and its validation (R169). -/

namespace Sys2Proof.Machine

open Sys2Proof

/-- R19, R73: the value of a curve at x. At or below the first point it is the first y, at or beyond the
last point the last y; between two points it is the first one's y plus the rounded step toward the second. -/
def curveValue : Curve → Int → Int
  | [], _ => 0
  | [(_, y)], _ => y
  | (x0, y0) :: (x1, y1) :: rest, x =>
    if x ≤ x0 then y0
    else if x < x1 then
      let step : Int := roundDiv ((y1 - y0).natAbs * (x - x0).toNat) (x1 - x0).toNat
      if y0 ≤ y1 then y0 + step else y0 - step
    else curveValue ((x1, y1) :: rest) x

/-- The sum of the data of a run of words. -/
def wordSum : List StoreWord → Nat
  | [] => 0
  | w :: rest => w.toNat + wordSum rest

/-- R199: a record of words with its check cell last is good when the sum is 0xFFFF modulo 65,536. -/
def checkGood (words : List StoreWord) : Bool := wordSum words % 65536 == 0xFFFF

/-- R199: the check cell a writer sets for these data cells. -/
def checkWord (words : List StoreWord) : StoreWord := BitVec.ofNat 16 (0xFFFF - wordSum words % 65536)

/-- The words of `count` cells from `first`. -/
def readRun (cells : List (Nat × StoreWord)) (first count : Nat) : List StoreWord :=
  (List.range count).map (fun i => Memory.read cells (first + i))

/-- The first cell of a bank (R152). -/
def Bank.first : Bank → Nat
  | .a => 96
  | .b => 256

/-- The other bank. -/
def Bank.other : Bank → Bank
  | .a => .b
  | .b => .a

/-- A bank's word at an offset, as a natural number (R200). -/
def bankNat (bank : List StoreWord) (o : Nat) : Nat := (bank.getD o 0).toNat

/-- A bank's word at an offset, in two's complement when `signed` (R200). -/
def bankInt (signed : Bool) (bank : List StoreWord) (o : Nat) : Int :=
  if signed then (bank.getD o 0).toInt else (bank.getD o 0).toNat

/-- R200: the curve whose twelve cells begin at an offset: six x, then six y. -/
def bankCurve (signedX signedY : Bool) (bank : List StoreWord) (o : Nat) : Curve :=
  (List.range 6).map (fun i => (bankInt signedX bank (o + i), bankInt signedY bank (o + 6 + i)))

/-- R200: five values in gauge order. -/
def bankPerGauge (bank : List StoreWord) (o : Nat) : PerGauge Nat :=
  ⟨bankNat bank o, bankNat bank (o + 1), bankNat bank (o + 2), bankNat bank (o + 3), bankNat bank (o + 4)⟩

/-- R200: the quantities a bank's 160 words hold. -/
def decodeBank (bank : List StoreWord) : Calibration where
  pulsesPerKm := bankNat bank 0
  tachPulsesPerRev := bankNat bank 1
  injectorUsPerMl := bankNat bank 2
  injectorDeadTime := bankNat bank 3
  injectorsPerPulse := bankNat bank 4
  tankCapacity := bankNat bank 5
  fuelReserve := bankNat bank 6
  defaultConsumption := bankNat bank 7
  hotThreshold := bankNat bank 8
  oilLowThreshold := bankNat bank 9
  gaugeSlew := bankPerGauge bank 10
  gaugeDeadband := bankPerGauge bank 15
  elecOffset := bankPerGauge bank 20
  sweepEnable := bankNat bank 25 == 1
  warningEnable := BitVec.ofNat 11 (bankNat bank 26)
  soonKm := bankNat bank 27
  soonDays := bankNat bank 28
  overdueKm := bankNat bank 29
  overdueDays := bankNat bank 30
  gaugeCurves := {
    speedo := bankCurve false false bank 31
    tacho := bankCurve false false bank 43
    fuel := bankCurve false false bank 55
    temp := bankCurve true false bank 67
    oilp := bankCurve false false bank 79 }
  tankCurve := bankCurve false false bank 91
  coolantCurve := bankCurve false true bank 103
  oilCurve := bankCurve false false bank 115
  airCurve := bankCurve false true bank 127

/-- `lo ≤ n ≤ hi`. -/
def within (lo hi n : Nat) : Bool := decide (lo ≤ n) && decide (n ≤ hi)

/-- `lo ≤ v ≤ hi`, for integers. -/
def withinInt (lo hi v : Int) : Bool := decide (lo ≤ v) && decide (v ≤ hi)

/-- Whether a list of integers strictly rises. -/
def strictlyRising : List Int → Bool
  | u :: v :: rest => decide (u < v) && strictlyRising (v :: rest)
  | _ => true

/-- Whether a list of integers never falls. -/
def neverFalling : List Int → Bool
  | u :: v :: rest => decide (u ≤ v) && neverFalling (v :: rest)
  | _ => true

/-- R169: a gauge curve's x strictly rising within the input range, its angles never falling within 0 to 767. -/
def gaugeCurveValid (lo hi : Int) (c : Curve) : Bool :=
  strictlyRising (c.map Prod.fst) && (c.map Prod.fst).all (withinInt lo hi) &&
  neverFalling (c.map Prod.snd) && (c.map Prod.snd).all (withinInt 0 767)

/-- R169: a sender curve's x strictly rising within 0 to 255, its y within the quantity's range. -/
def senderCurveValid (lo hi : Int) (c : Curve) : Bool :=
  strictlyRising (c.map Prod.fst) && (c.map Prod.fst).all (withinInt 0 255) &&
  (c.map Prod.snd).all (withinInt lo hi)

/-- Whether every gauge's value lies within a range. -/
def perGaugeWithin (lo hi : Nat) (r : PerGauge Nat) : Bool :=
  within lo hi r.speedo && within lo hi r.tacho && within lo hi r.fuel && within lo hi r.temp &&
  within lo hi r.oilp

/-- R169: whether every quantity and curve lies within the ranges of the tables. -/
def calibrationValid (c : Calibration) : Bool :=
  within 1000 16000 c.pulsesPerKm && within 1 6 c.tachPulsesPerRev && within 50 5000 c.injectorUsPerMl &&
  within 0 2000 c.injectorDeadTime && within 1 8 c.injectorsPerPulse && within 200 1500 c.tankCapacity &&
  within 0 300 c.fuelReserve && within 50 500 c.defaultConsumption && within 90 140 c.hotThreshold &&
  within 0 200 c.oilLowThreshold && perGaugeWithin 1 64 c.gaugeSlew && perGaugeWithin 0 8 c.gaugeDeadband &&
  perGaugeWithin 0 1023 c.elecOffset && within 0 10000 c.soonKm && within 0 365 c.soonDays &&
  within 0 10000 c.overdueKm && within 0 365 c.overdueDays &&
  gaugeCurveValid 0 3000 c.gaugeCurves.speedo && gaugeCurveValid 0 9000 c.gaugeCurves.tacho &&
  gaugeCurveValid 0 1000 c.gaugeCurves.fuel && gaugeCurveValid (-40) 150 c.gaugeCurves.temp &&
  gaugeCurveValid 0 1000 c.gaugeCurves.oilp && senderCurveValid 0 1500 c.tankCurve &&
  senderCurveValid (-40) 150 c.coolantCurve && senderCurveValid 0 1000 c.oilCurve &&
  senderCurveValid (-40) 80 c.airCurve

/-- R169, R200: a bank's 160 words pass validation: the check agrees, SweepEnable is 0 or 1, WarningEnable
sets none of bits 11 to 15, and every quantity and curve is in range. -/
def bankWordsValid (bank : List StoreWord) : Bool :=
  checkGood bank && within 0 1 (bankNat bank 25) && within 0 0x7FF (bankNat bank 26) &&
  calibrationValid (decodeBank bank)

/-- The 160 words of a bank's cells. -/
def bankWords (cells : List (Nat × StoreWord)) (bank : Bank) : List StoreWord := readRun cells bank.first 160

/-- R169: whether a bank passes validation, read from the cells themselves. -/
def bankValid (cells : List (Nat × StoreWord)) (bank : Bank) : Bool :=
  bankWordsValid (bankWords cells bank)

end Sys2Proof.Machine
end

