-- ==== Sys2Proof/Machine/Store.lean ====
section
/-! DEFINITION. The write queue of the store (R159 to R163): what a job writes, how a job joins the queue,
and how the first job begins. The completion of a job, which other blocks hear of, is in
Machine/StoreWork.lean. -/

namespace Sys2Proof.Machine

open Sys2Proof

/-- The part with its store replaced. -/
def Panel.withNvs (n : Nvs) (p : Panel) : Panel := { p with nvs := n }

/-! ### What a job writes -/

/-- R199: the two cells of a ring record: the odometer's low bits, and its high bits with the check byte
that brings the four bytes to 0xFF. -/
def ringRecord (value : Nat) : List StoreWord :=
  let sum := value % 256 + value / 256 % 256 + value / 65536 % 256
  let check := 255 - sum % 256
  [BitVec.ofNat 16 value, BitVec.ofNat 16 (value / 65536 % 256 + 256 * check)]

/-- The words a job writes, in address order. -/
def JobData.words : JobData → List StoreWord
  | .odometer v => ringRecord v
  | .cells _ ws => ws

/-- R154: the slot the next odometer job is bound to when it begins. -/
def Nvs.nextSlot (n : Nvs) : Nat := (n.ringPointer + 1) % 16

/-- The first cell a job writes, once begun; an odometer job is bound to the next slot. -/
def Nvs.firstCell (n : Nvs) : JobData → Nat
  | .odometer _ => 2 * n.nextSlot
  | .cells first _ => first

/-- R159: the number of jobs in the queue, the one in flight counted. -/
def Nvs.jobCount (n : Nvs) : Nat := n.queue.length + n.inFlight.toList.length

/-- R161: the free slots of the queue. -/
def Nvs.freeSlots (n : Nvs) : Nat := 8 - n.jobCount

/-- R159: the queue in its order: URGENT jobs before NORMAL ones, the job in flight at the head of its
class. -/
def Nvs.inOrder (n : Nvs) : List WriteJob :=
  let urgent := n.queue.filter (fun j => j.jobClass == .urgent)
  let normal := n.queue.filter (fun j => j.jobClass == .normal)
  match n.inFlight with
  | none => urgent ++ normal
  | some j => if j.jobClass == .urgent then j :: urgent ++ normal else urgent ++ j :: normal

/-! ### Merging (R160) -/

/-- Whether the cells of `a` include every cell of `b`; two odometer jobs share their target (R154). -/
def JobData.covers : JobData → JobData → Bool
  | .odometer _, .odometer _ => true
  | .cells f ws, .cells g vs => decide (f ≤ g) && decide (g + vs.length ≤ f + ws.length)
  | _, _ => false

/-- The data of `a` with the cells of `b` replaced. -/
def JobData.mergeWith : JobData → JobData → JobData
  | .odometer _, .odometer v => .odometer v
  | .cells f ws, .cells g vs => .cells f (ws.take (g - f) ++ vs ++ ws.drop (g - f + vs.length))
  | a, _ => a

/-- R160: a pending job that a new one is merged into; once begun, it goes back to its first cell. -/
def WriteJob.merge (n : Nvs) (old new : WriteJob) : WriteJob :=
  let data := old.data.mergeWith new.data
  { old with data := data, progress := old.progress.map (fun _ => n.firstCell data) }

/-- R159: a job added at the end of its class. -/
def insertByClass (j : WriteJob) (queue : List WriteJob) : List WriteJob :=
  match j.jobClass with
  | .normal => queue ++ [j]
  | .urgent => queue.filter (fun q => q.jobClass == .urgent) ++ j :: queue.filter (fun q => q.jobClass == .normal)

/-- R160: the queue after a new job has been merged, or has replaced the jobs it includes and joined. The jobs not
begun that a merged job includes are removed too, so that no older data is written after it (assumption 47). -/
def Nvs.join (n : Nvs) (j : WriteJob) : List WriteJob :=
  let kept := n.queue.filter (fun q => q.data.covers j.data || !(j.data.covers q.data && q.progress.isNone))
  if kept.any (fun q => q.data.covers j.data) then
    kept.map (fun q => if q.data.covers j.data then WriteJob.merge n q j else q)
  else insertByClass j kept

/-! ### Removing jobs (R161, R163) -/

/-- A NORMAL job not yet begun. -/
def WriteJob.removable (j : WriteJob) : Bool := j.jobClass == .normal && j.progress.isNone

/-- The queue without the removable job that joined last. -/
def dropLastRemovable (queue : List WriteJob) : List WriteJob :=
  (queue.reverse.eraseP WriteJob.removable).reverse

/-- The removable job that joined last. -/
def lastRemovable (queue : List WriteJob) : Option WriteJob := queue.reverse.find? WriteJob.removable

/-- R161, R163: notice STORE to SERVICE when a job from SERVICE is removed. -/
def notifyRemoved (removed : List WriteJob) (p : Panel) : Panel :=
  if removed.any (fun j => j.origin == .service) then notifyLink .store .service p else p

/-- R163: the removal of every pending NORMAL job not yet begun. -/
def removeNormal (p : Panel) : Panel :=
  notifyRemoved (p.nvs.queue.filter WriteJob.removable)
    (p.withNvs { p.nvs with queue := p.nvs.queue.filter (fun j => !j.removable) })

/-- R163: what each queuing does while the supply-low line is asserted. -/
def purgeIfSupplyLow (p : Panel) : Panel := if p.pmc.supplyLow then removeNormal p else p

/-! ### Beginning a job (R159) -/

/-- R159, R154: a job put in flight: at its next cell, or at its first if not begun. -/
def Nvs.begin (n : Nvs) (j : WriteJob) (rest : List WriteJob) : Nvs :=
  { n with
    queue := rest
    inFlight := some { j with progress := some (j.progress.getD (n.firstCell j.data)) }
    cellTimer := some cellTime }

/-- R159: with no job in flight, the first job begins. While a restart drains the queue, only a job begun
and suspended resumes (R158). -/
def Nvs.beginNext (n : Nvs) : Nvs :=
  match n.inFlight with
  | some _ => n
  | none =>
    if n.draining then
      match n.queue.find? (fun j => j.progress.isSome) with
      | some j => n.begin j (n.queue.eraseP (fun j => j.progress.isSome))
      | none => n
    else
      match n.queue with
      | j :: rest => n.begin j rest
      | [] => n

/-- A job queued: merged or added (R160), removed again under supply low (R163), and begun when it is the
first and none is in flight. A job queued while a restart drains that merges into the begun and suspended job is
written with it from its first cell, where R158 would empty it with the others (DESIGN CHOICE, assumption 53). -/
def queueJob (j : WriteJob) (p : Panel) : Panel :=
  let p := purgeIfSupplyLow (p.withNvs { p.nvs with queue := p.nvs.join j })
  p.withNvs p.nvs.beginNext

/-- R161: an odometer or snapshot job. One that neither merges nor finds a slot takes the slot of the
NORMAL job not yet begun that joined last. -/
def queueUrgent (data : JobData) (p : Panel) : Panel :=
  let j : WriteJob := ⟨data, .urgent, .internal, none⟩
  if p.nvs.queue.any (fun q => q.data.covers data) || decide (0 < p.nvs.freeSlots) then queueJob j p
  else
    match lastRemovable p.nvs.queue with
    | none => p
    | some r =>
      queueJob j (notifyRemoved [r] (p.withNvs { p.nvs with queue := dropLastRemovable p.nvs.queue }))

/-- R161: an internal NORMAL job, which is not queued when it finds fewer than 3 free slots. -/
def queueInternal (data : JobData) (p : Panel) : Panel :=
  if p.nvs.freeSlots < 3 then p else queueJob ⟨data, .normal, .internal, none⟩ p

/-- R161, R163: whether the store accepts a request from a link that queues `jobs` jobs. -/
def storeAccepts (jobs : Nat) (p : Panel) : Bool :=
  decide (jobs + 2 ≤ p.nvs.freeSlots) && !p.pmc.supplyLow

/-! ### Reading a cell (R162) -/

/-- The data a job holds for a cell. -/
def Nvs.jobWord (n : Nvs) (i : Nat) (j : WriteJob) : Option StoreWord :=
  let first := n.firstCell j.data
  if first ≤ i then j.data.words[i - first]? else none

/-- Whether a pending job holds a cell: an odometer job holds none until it begins (R162). -/
def Nvs.pendingWord (n : Nvs) (i : Nat) (j : WriteJob) : Option StoreWord :=
  match j.data with
  | .odometer _ => none
  | .cells _ _ => n.jobWord i j

/-- R162: a cell as the window and IDENTITY_READ read it: the data of the job queued last that holds it,
otherwise the cell's content. A job pending in the queue was queued after the one in flight that holds the same
cell, and the last one in the queue after those before it (assumption 47). -/
def Nvs.readCell (n : Nvs) (i : Nat) : StoreWord :=
  match n.queue.reverse.findSome? (n.pendingWord i) with
  | some w => w
  | none =>
    match n.inFlight.bind (n.jobWord i) with
    | some w => w
    | none => Memory.read n.cells i

/-! ### The records of the store -/

/-- R199: the words of the DAY region. -/
def dayWords (dayCount : Nat) : List StoreWord :=
  [BitVec.ofNat 16 dayCount, checkWord [BitVec.ofNat 16 dayCount]]

/-- R199: the seven words of a trip record in SNAPSHOT. The State of a HELD record is written as 1, where R199 gives any
value but 0 (DESIGN CHOICE, assumption 56). -/
def tripWords (r : TripRecord) : List StoreWord :=
  [BitVec.ofNat 16 r.counts.distance, BitVec.ofNat 16 (r.counts.distance / 65536),
   BitVec.ofNat 16 r.counts.fuel, BitVec.ofNat 16 (r.counts.fuel / 65536),
   BitVec.ofNat 16 r.counts.runTime, BitVec.ofNat 16 (r.counts.runTime / 65536),
   BitVec.ofNat 16 r.held.toNat]

/-- R155, R199: the 30 words of the SNAPSHOT region. -/
def snapshotWords (estimate : Option Nat) (trips : PerTrip TripRecord) : List StoreWord :=
  let body := BitVec.ofNat 16 (estimate.getD 0xFFFF) ::
    (tripWords trips.tripA ++ tripWords trips.tripB ++ tripWords trips.journey ++ tripWords trips.tank)
  body ++ [checkWord body]

/-- The sum of the low and high bytes of words. -/
def byteSum : List StoreWord → Nat
  | [] => 0
  | w :: rest => w.toNat % 256 + w.toNat / 256 + byteSum rest

/-- R199: the four words of a service item. -/
def itemWords (it : ServiceItem) : List StoreWord :=
  let w0 : StoreWord := BitVec.ofNat 16 it.intervalKm
  let w1 : StoreWord := BitVec.ofNat 16 it.lastKm
  let w2 : StoreWord := BitVec.ofNat 16 (it.intervalDays % 1024 + 1024 * (it.labelCode % 16) + 16384 * (it.lastDay % 4))
  let low := it.lastDay / 4 % 256
  let want := 0x5A + it.enabled.toNat + 2 * it.driverReset.toNat
  let check := (want + 256 * 8 - (byteSum [w0, w1, w2] + low)) % 256
  [w0, w1, w2, BitVec.ofNat 16 (low + 256 * check)]

/-- R152: the first cell of a service item. -/
def SlotId.firstCell (i : SlotId) : Nat := 64 + 4 * i.idx

/-- R199: the selector value of a bank. -/
def Bank.selector : Bank → StoreWord
  | .a => 0x00A5
  | .b => 0x00B5

/-- The cell addresses of CONTROL (R199). -/
def selectorCell : Nat := 88
/-- The odometer lock cell (R199). -/
def lockCell : Nat := 90
/-- The format code cell (R199). -/
def formatCell : Nat := 91
/-- The lock code (R199). -/
def lockCode : StoreWord := 0x00C3
/-- The format code of this part (R199). -/
def formatCode : StoreWord := 0x2610

/-- R199, R153: the bank the selector cells name; none when they are bad. -/
def selectorBank (cells : List (Nat × StoreWord)) : Option Bank :=
  let words := readRun cells selectorCell 2
  if !checkGood words then none
  else if Memory.read cells selectorCell = Bank.selector .a then some .a
  else if Memory.read cells selectorCell = Bank.selector .b then some .b
  else none

/-- The bank a selector job's data names. -/
def selectorOf (w : StoreWord) : Option Bank :=
  if w = Bank.selector .a then some .a else if w = Bank.selector .b then some .b else none

end Sys2Proof.Machine
end

