-- ==== Sys2Proof/Machine/Service.lean ====
section
/-! DEFINITION. The service table: remaining values, due states and evaluation (R121 to R124). -/

namespace Sys2Proof.Machine

open Sys2Proof

/-- The part with its Service Monitor replaced. -/
def Panel.withSvm (v : Svm) (p : Panel) : Panel := { p with svm := v }

/-- R118: the odometer's whole-km value. -/
def odoKm (p : Panel) : Nat := p.dfa.odometer / 10

/-- R121: an item's remaining distance, formed only when its interval is not 0. -/
def remKm (it : ServiceItem) (km : Nat) : Option Int :=
  if it.intervalKm = 0 then none else some ((it.lastKm : Int) + it.intervalKm - km)

/-- R121: an item's remaining days, formed only when its interval is not 0. -/
def remDays (it : ServiceItem) (day : Nat) : Option Int :=
  if it.intervalDays = 0 then none else some ((it.lastDay : Int) + it.intervalDays - day)

/-- R122: the grade of a measure against a Soon and an Overdue threshold. -/
def grade (soon overdue : Nat) (rem : Int) : DueState :=
  if rem < -(overdue : Int) then .overdue
  else if rem ≤ 0 then .due
  else if rem ≤ (soon : Int) then .dueSoon
  else .ok

/-- How bad a state is, from OK at 0. -/
def DueState.rank : DueState → Nat
  | .inactive => 0
  | .ok => 0
  | .dueSoon => 1
  | .due => 2
  | .overdue => 3

/-- The worse of two grades (R122). -/
def worse (x y : DueState) : DueState := if x.rank < y.rank then y else x

/-- R122: an item's State. -/
def itemState (cal : Calibration) (km day : Nat) (it : ServiceItem) : DueState :=
  if !it.enabled then .inactive
  else
    match remKm it km, remDays it day with
    | none, none => .inactive
    | some k, none => grade cal.soonKm cal.overdueKm k
    | none, some d => grade cal.soonDays cal.overdueDays d
    | some k, some d => worse (grade cal.soonKm cal.overdueKm k) (grade cal.soonDays cal.overdueDays d)

/-- R122, R123: the table with every item's State computed from the fields, OdoKm, DayCount and thresholds. -/
def evaluatedItems (p : Panel) : PerSlot ServiceItem :=
  PerSlot.map (fun it => { it with state := itemState p.nvs.calibration (odoKm p) p.svm.dayCount it })
    p.svm.items

/-- R124: the first evaluation after recovery, which posts no notice. -/
def evaluateFirst (p : Panel) : Panel := judgeWarnings (p.withSvm { p.svm with items := evaluatedItems p })

/-- R123, R124: an evaluation of the table. A change of a State posts notice SERVICE to all links once. None
is taken between a restart's beginning and the end of the table's recovery. -/
def evaluate (p : Panel) : Panel :=
  if !p.nvs.recoveryDone then p
  else
    let items := evaluatedItems p
    let q := p.withSvm { p.svm with items := items }
    judgeWarnings (if items = p.svm.items then q else notifyAll .service q)

/-- The store job that carries an item (R119, R127, R130). -/
def itemJobData (i : SlotId) (it : ServiceItem) : JobData := .cells i.firstCell (itemWords it)

/-! ### The one-second event (R132, R133, R136) -/

/-- R133: the vehicle clock one second on. -/
def Svm.tickClock (v : Svm) : Svm :=
  { v with timeOfDay := if 86399 ≤ v.timeOfDay then 0 else v.timeOfDay + 1 }

/-- R136: the day timer one second on, and the day job and evaluation of a roll-over. -/
def tickDay (p : Panel) : Panel :=
  if p.svm.dayTimer < 86399 then p.withSvm { p.svm with dayTimer := p.svm.dayTimer + 1 }
  else
    let p := p.withSvm { p.svm with dayTimer := 0 }
    if p.svm.dayCount < 65535 then
      let p := p.withSvm { p.svm with dayCount := p.svm.dayCount + 1 }
      evaluate (queueInternal (.cells 32 (dayWords p.svm.dayCount)) p)
    else p

end Sys2Proof.Machine
end

