-- ==== Sys2Proof/Machine/Trips.lean ====
section
/-! DEFINITION. The trip records: counting (R47 to R49, R58), derived values (R60 to R64, R66), the range
delivered to the Warning Controller (R65), ownership (R51), reset, hold and resume (R53, R54), arrival (R67). -/

namespace Sys2Proof.Machine

open Sys2Proof

/-- The part with its Trip Computer replaced. -/
def Panel.withTrc (t : Trc) (p : Panel) : Panel := { p with trc := t }

/-! ### Counting -/

/-- The maximum of Distance and of Fuel (R44). -/
def countMax : Nat := 9999999
/-- The maximum of RunTime (R44). -/
def runTimeMax : Nat := 3599999

/-- R47, R48, R49: counts added to a record that is RUNNING, each saturating; a HELD record takes none. -/
def TripRecord.add (du ml seconds : Nat) (r : TripRecord) : TripRecord :=
  if r.held then r
  else { r with counts :=
    ⟨clampAt countMax (r.counts.distance + du), clampAt countMax (r.counts.fuel + ml),
     clampAt runTimeMax (r.counts.runTime + seconds)⟩ }

/-- R58: DU and mL added to the current slot. -/
def Slot.add (du ml : Nat) (s : Slot) : Slot := ⟨clampAt 65535 (s.du + du), clampAt 65535 (s.ml + ml)⟩

/-- R47, R48, R58: completions taken by the trip table and the current slot. -/
def Trc.count (du ml : Nat) (t : Trc) : Trc :=
  { t with trips := PerTrip.map (TripRecord.add du ml 0) t.trips, current := t.current.add du ml }

/-- R49, R58: the second event in RUN: run time, and the rotation of the instant window. -/
def Trc.second (t : Trc) : Trc :=
  { t with
    trips := PerTrip.map (TripRecord.add 0 0 1) t.trips
    ring := t.ring.drop 1 ++ [t.current]
    current := Slot.zero }

/-! ### Derived values -/

/-- R60: the average speed, in 0.1 km/h. -/
def averageSpeed (c : TripCounts) : Option Nat :=
  if c.runTime < 60 then none else some (clampAt 2999 (roundDiv (c.distance * 360) c.runTime))

/-- R61: the average consumption, in 0.1 L/100 km. -/
def averageConsumption (c : TripCounts) : Option Nat :=
  if c.distance < 100 then none else some (clampAt 999 (roundDiv (c.fuel * 100) c.distance))

/-- R61: the average economy, in 0.1 mpg. -/
def averageEconomy (c : TripCounts) : Option Nat :=
  if c.fuel < 100 then none else some (clampAt 999 (roundDiv (c.distance * 282481) (c.fuel * 1000)))

/-- R62: JOURNEY's remaining distance, in DU. -/
def remainingDistance (t : Trc) : Option Nat :=
  t.destinationKm.map (fun km => km * 100 - t.trips.journey.counts.distance)

/-- R62: JOURNEY's ETA, in minutes. -/
def eta (t : Trc) : Option Nat :=
  match remainingDistance t, averageSpeed t.trips.journey.counts with
  | some r, some a => if a = 0 then none else some (clampAt 5999 (roundDiv (r / 100 * 600) a))
  | _, _ => none

/-- R63: the forms of the instant value, in the order of its table. -/
inductive InstantForm where
  | consumption | idleFlow | absent
  deriving DecidableEq, Repr

/-- The reply code of a form (R198). -/
def InstantForm.code : InstantForm → Nat
  | .consumption => 0
  | .idleFlow => 1
  | .absent => 2

/-- The sums of the ring slots (R63). -/
def ringSum : List Slot → Slot
  | [] => Slot.zero
  | s :: rest => ⟨s.du + (ringSum rest).du, s.ml + (ringSum rest).ml⟩

/-- R63: the instant value and its form, in the reply's units; absent outside RUN. -/
def instantValue (p : Panel) : InstantForm × Option Nat :=
  let s := ringSum p.trc.ring
  if p.pmc.mode ≠ .run then (.absent, none)
  else if 5 ≤ s.du then
    (.consumption, some <|
      if !p.pmc.imperial then clampAt 999 (roundDiv (s.ml * 100) s.du)
      else if s.ml = 0 then 999
      else clampAt 999 (roundDiv (s.du * 282481) (s.ml * 1000)))
  else if 0 < s.ml then
    (.idleFlow, some <|
      if !p.pmc.imperial then roundDiv (s.ml * 45) 10 else roundDiv (s.ml * 450000) 454609)
  else (.absent, none)

/-- R64: the consumption the range rests on. -/
def rangeConsumption (p : Panel) : Nat :=
  let c := p.trc.trips.tank.counts
  if 2000 ≤ c.distance ∧ 100 ≤ c.fuel then max 1 ((averageConsumption c).getD 1)
  else p.nvs.calibration.defaultConsumption

/-- R64: the range, in km. -/
def rangeKm (p : Panel) : Option Nat := p.dfa.estimate.map (fun e => clampAt 1999 (e * 100 / rangeConsumption p))

/-- R65: the range computed afresh and delivered, and the warnings that read E and the range judged (R93). Before the
recovery of E and the calibration no range is delivered. -/
def rangeInputsChanged (p : Panel) : Panel :=
  judgeWarnings
    (if p.nvs.recoveryDone then p.withTrc { p.trc with lastRange := some (rangeKm p) } else p)

/-! ### Conversions (R66) -/

/-- DU as 0.1 mile (R66, R31). -/
def duToMiles (du : Nat) : Nat := roundDiv (du * 100000) 1609344
/-- mL as 0.1 gallon (R66). -/
def mlToGallons (ml : Nat) : Nat := roundDiv (ml * 1000) 454609
/-- 0.1 km/h as 0.1 mph, and km as miles (R66, R188). -/
def kmToMiles (v : Nat) : Nat := roundDiv (v * 1000000) 1609344
/-- 0.1 L as 0.1 gallon (R42). -/
def litresToGallons (x : Nat) : Nat := roundDiv (x * 100000) 454609

/-! ### Ownership (R51) -/

/-- R51: the effective owner of a record. -/
def effectiveOwner (p : Panel) : TripId → Option Link
  | .tripA | .tripB => some .front
  | .journey => some (if p.pmc.rearFitted && p.lnk.ports.rear.present then .rear else .front)
  | .tank => none

/-- R51: whether a link may change a record. -/
def mayChange (p : Panel) (l : Link) (i : TripId) : Bool :=
  l == .service || effectiveOwner p i == some l

/-! ### Reset, hold and resume (R53, R54) -/

/-- R53: a record reset: Previous takes the counts, the counts become 0, and State is left. -/
def TripRecord.resetCounts (r : TripRecord) : TripRecord :=
  { r with counts := ⟨0, 0, 0⟩, previous := some r.counts }

/-- R53: the trip table with one record reset; JOURNEY's destination is cleared with it. -/
def Trc.resetTrip (i : TripId) (t : Trc) : Trc :=
  let t := { t with trips := t.trips.set i (t.trips.get i).resetCounts }
  match i with
  | .journey => { t with destinationKm := none, arrivalArmed := false }
  | _ => t

/-- R53: a record reset at a link's request, with notice TRIP to the other links. -/
def resetTrip (i : TripId) (requester : Link) (p : Panel) : Panel :=
  rangeInputsChanged (notifyOthers .trip requester (p.withTrc (p.trc.resetTrip i)))

/-- R39, R53: TANK reset by a refuel event, with notice TRIP to all links. -/
def resetTank (p : Panel) : Panel := notifyAll .trip (p.withTrc (p.trc.resetTrip .tank))

/-- R54: a record made HELD or RUNNING; a change posts notice TRIP to the other links. -/
def setHeld (i : TripId) (held : Bool) (requester : Link) (p : Panel) : Panel :=
  let r := p.trc.trips.get i
  if r.held = held then p
  else notifyOthers .trip requester
    (p.withTrc { p.trc with trips := p.trc.trips.set i { r with held := held } })

/-! ### Arrival (R67) -/

/-- R67: whether a crossing raises arrival. -/
def arrivalDue (p : Panel) : Bool :=
  p.pmc.mode == .run && p.trc.arrivalArmed && holdsOf (remainingDistance p.trc) (fun r => decide (r ≤ 100))

/-- R67: JOURNEY's arrival judged at a whole-km crossing. -/
def judgeArrival (p : Panel) : Panel :=
  if arrivalDue p then
    raiseEvent .arrival (notifyAll .trip (p.withTrc { p.trc with arrivalArmed := false }))
  else p

end Sys2Proof.Machine
end

