-- ==== Sys2Proof/Machine/Distance.lean ====
section
/-! DEFINITION. The Distance and Fuel Accumulator: distance units and the odometer (R23 to R28), fuel
(R32 to R34), the fuel sample (R37 to R41) and the bank switch (R43). -/

namespace Sys2Proof.Machine

open Sys2Proof

/-- The part with its Distance and Fuel Accumulator replaced. -/
def Panel.withDfa (d : Dfa) (p : Panel) : Panel := { p with dfa := d }

/-- The odometer's limit (R25). -/
def odometerMax : Nat := 9999999

/-- R25: the odometer and its sub-count one distance unit on. -/
def Dfa.advance (d : Dfa) : Dfa :=
  if odometerMax ≤ d.odometer then { d with odoSubCount := if d.odoSubCount < 9 then d.odoSubCount + 1 else 9 }
  else if d.odoSubCount + 1 < 10 then { d with odoSubCount := d.odoSubCount + 1 }
  else { d with odoSubCount := 0, odometer := d.odometer + 1 }

/-- R26: the deliveries of a whole-km crossing: the URGENT odometer job, the service table, JOURNEY's
arrival, in this order (assumption 50). -/
def wholeKmCrossing (p : Panel) : Panel :=
  judgeArrival (evaluate (queueUrgent (.odometer p.dfa.odometer) p))

/-- R24: a distance unit delivered to the Trip Computer and to the odometer, in this order, so that JOURNEY has
taken the unit that completes a crossing when R67 judges its arrival (assumption 39). The crossing's service
evaluation and arrival come before the range that the unit changes is delivered for LOW_FUEL (R65), an order that
R24, R26 and R124 leave open (DESIGN CHOICE, assumption 50). -/
def distanceUnit (p : Panel) : Panel :=
  let before := p.dfa.odometer
  let p := (p.withTrc (p.trc.count 1 0)).withDfa p.dfa.advance
  rangeInputsChanged
    (if p.dfa.odometer ≠ before ∧ p.dfa.odometer % 10 = 0 then wholeKmCrossing p else p)

/-- R23: a speed-pulse arrival. -/
def speedPulse (p : Panel) : Panel :=
  let total := p.dfa.rd + 100
  let k := p.nvs.calibration.pulsesPerKm
  if total < k then p.withDfa { p.dfa with rd := total }
  else distanceUnit (p.withDfa { p.dfa with rd := total - k })

/-- R34: the fuel sub-count with millilitres added; each 100 lowers E by 1, not below 0. -/
def Dfa.burn (n : Nat) (d : Dfa) : Dfa :=
  { d with
    fuelSubCount := (d.fuelSubCount + n) % 100
    estimate := d.estimate.map (fun e => e - (d.fuelSubCount + n) / 100) }

/-- R33: the millilitres of one injector-pulse completion, taken as one whole. -/
def millilitres (n : Nat) (p : Panel) : Panel :=
  if n = 0 then p
  else rangeInputsChanged ((p.withTrc (p.trc.count 0 n)).withDfa (p.dfa.burn n))

/-- R32: the effective open time of a completion. -/
def effectiveOpenTime (cal : Calibration) (w : Nat) : Nat := (w - cal.injectorDeadTime) * cal.injectorsPerPulse

/-- R32: an injector-pulse completion of width `w`. -/
def injectorCompletion (w : Nat) (p : Panel) : Panel :=
  let total := p.dfa.rf + effectiveOpenTime p.nvs.calibration w
  let k := p.nvs.calibration.injectorUsPerMl
  millilitres (total / k) (p.withDfa { p.dfa with rf := total % k })

/-! ### The fuel sample (R37 to R40) -/

/-- R37: the sender value S; none while the FUEL sender is faulty or FuelLevel is absent. FuelLevel is the value
held, which R19 does not convert anew at a bank switch (assumption 37). -/
def senderValue (p : Panel) : Option Nat :=
  if senderFault p .fuel then none else p.adc.fuelLevel.map (clampAt p.nvs.calibration.tankCapacity)

/-- R37 to R40: one fuel sample. At a refuel event the range is computed and LOW_FUEL judged once, after both the
setting of E and the reset of TANK, where R39 and R65 are silent (DESIGN CHOICE, assumption 51). -/
def fuelSample (p : Panel) : Panel :=
  match senderValue p with
  | none => p
  | some s =>
    match p.dfa.estimate with
    | none => rangeInputsChanged (p.withDfa { p.dfa with estimate := some s, fuelSubCount := 0 })
    | some e =>
      if 10 ≤ p.pcu.stationaryTime ∧ e + 50 ≤ s then
        rangeInputsChanged (resetTank (p.withDfa { p.dfa with estimate := some s, fuelSubCount := 0 }))
      else if e + 30 ≤ s then rangeInputsChanged (p.withDfa { p.dfa with estimate := some (e + 1) })
      else if s + 30 ≤ e then rangeInputsChanged (p.withDfa { p.dfa with estimate := some (e - 1) })
      else p

/-- R35, R43: E clamped to the working calibration's TankCapacity. -/
def Dfa.clampEstimate (capacity : Nat) (d : Dfa) : Dfa := { d with estimate := d.estimate.map (clampAt capacity) }

/-- R43: the accumulator takes a new working calibration. -/
def Dfa.takeCalibration (cal : Calibration) (d : Dfa) : Dfa :=
  { d.clampEstimate cal.tankCapacity with rd := 0, rf := 0 }

/-- R27: the odometer job of a SHUTDOWN entry, when tenths have not been handed to the store. -/
def queueTenths (p : Panel) : Panel :=
  if p.dfa.odometer % 10 = 0 then p else queueUrgent (.odometer p.dfa.odometer) p

/-- R28: an accepted ODOMETER_SET reaches the accumulator; a greater whole-km value is evaluated as a
crossing. The fault indication, whose ODO_LOST term this clears, is judged by the caller, after this evaluation
(assumption 52). -/
def takeOdometer (value : Nat) (p : Panel) : Panel :=
  let before := odoKm p
  let p := p.withDfa { p.dfa with odometer := value, odoSubCount := 0, odoLost := false }
  if before < odoKm p then evaluate p else p

/-- FUEL_SAMPLE_EXPIRY (R36, R37): the sample, and the timer started again. -/
def fuelSampleExpiry (p : Panel) : Panel :=
  if p.dfa.fuelSampleTimer.isSome then
    fuelSample (p.withDfa { p.dfa with fuelSampleTimer := Timer.start fuelSampleInterval })
  else p

/-- FUEL_SAMPLE_EXPIRY (R37 to R40). -/
def execFuelSampleExpiry (s : State) : Host.Outcome State Fault Refusal := s.act fuelSampleExpiry

end Sys2Proof.Machine
end

