-- ==== Sys2Proof/Machine/Gauges.lean ====
section
/-! DEFINITION. The Gauge Driver: targets, movement, phases, holds, coil faults and coil duties (R69 to
R91). The refresh expiry itself, whose grants and deliveries reach other blocks, is in Machine/Power.lean. -/

namespace Sys2Proof.Machine

open Sys2Proof

/-- The part with its Gauge Driver replaced. -/
def Panel.withGdr (g : Gdr) (p : Panel) : Panel := { p with gdr := g }

/-- The part with one gauge record replaced. -/
def Panel.withGauge (g : Gauge) (r : GaugeRecord) (p : Panel) : Panel :=
  p.withGdr { p.gdr with gauges := p.gdr.gauges.set g r }

/-- The part with every gauge record changed. -/
def Panel.mapGauges (f : Gauge → GaugeRecord → GaugeRecord) (p : Panel) : Panel :=
  p.withGdr { p.gdr with gauges := PerGauge.of fun g => f g (p.gdr.gauges.get g) }

/-! ### Targets (R71, R72) -/

/-- R71, R42: the fuel permille. -/
def fuelPermille (p : Panel) : Nat := (p.dfa.estimate.getD 0) * 1000 / p.gdr.calibration.tankCapacity

/-- R71: a gauge's tracking value. -/
def trackingValue (p : Panel) (g : Gauge) : Nat :=
  let curves := p.gdr.calibration.curves
  match g with
  | .speedo => (curveValue curves.speedo p.pcu.speedV).toNat
  | .tacho => (curveValue curves.tacho p.pcu.engineN).toNat
  | .fuel => (curveValue curves.fuel (fuelPermille p)).toNat
  | .temp =>
    if senderFault p .coolant then 0
    else match p.adc.coolantTemp with
      | none => 0
      | some t => (curveValue curves.temp t).toNat
  | .oilp =>
    if senderFault p .oil then 0
    else match p.adc.oilPressure with
      | none => 0
      | some v => (curveValue curves.oilp v).toNat

/-- R72: the Target a Phase gives. -/
def phaseTarget (tracking : Nat) : Phase → Nat
  | .tracking | .sweepDown | .disabled => tracking
  | .sweepUp => 767
  | .parking | .parked => 0

/-! ### Movement (R75, R76) -/

/-- |a - b| of two angles. -/
def angleGap (a b : Nat) : Nat := (a - b) + (b - a)

/-- R76: Current moved toward Target by at most `step`, if it lies outside the deadband. R74 says that a moving
pointer goes all the way; R76's test of each refresh is followed (assumption 40). -/
def moveToward (current target deadband step : Nat) : Nat :=
  if angleGap target current ≤ deadband then current
  else if current < target then current + min (target - current) step
  else current - min (current - target) step

/-- R75: the deadband and step of a Phase; none for a Phase that does not move. -/
def phaseMove (slew deadband : Nat) : Phase → Option (Nat × Nat)
  | .tracking => some (deadband, slew)
  | .sweepUp | .sweepDown => some (0, 16)
  | .parking => some (0, max slew 8)
  | .parked | .disabled => none

/-- R76: stage 2 for one gauge. -/
def GaugeRecord.move (slew deadband : Nat) (r : GaugeRecord) : GaugeRecord :=
  if r.hold = .none then
    match phaseMove slew deadband r.phase with
    | some (d, step) => { r with current := moveToward r.current r.target d step }
    | none => r
  else r

/-! ### Coil duties (R87 to R89) -/

/-- R87: the quarter-wave sine table in ROM. -/
def sineTable : List Nat :=
  [0, 6, 13, 19, 25, 31, 37, 44, 50, 56, 62, 68, 74, 80, 86, 92, 98, 103, 109, 115, 120, 126, 131, 136,
   142, 147, 152, 157, 162, 167, 171, 176, 180, 185, 189, 193, 197, 201, 205, 208, 212, 215, 219, 222, 225,
   228, 231, 233, 236, 238, 240, 242, 244, 246, 247, 249, 250, 251, 252, 253, 254, 254, 255, 255, 255]

/-- R87: the interpolated sine S(x), for x in 0 to 256. -/
def sine (x : Nat) : Nat :=
  let k := x / 4
  let r := x % 4
  let t := sineTable.getD k 0
  t + (sineTable.getD (k + 1) t - t) * r / 4

/-- R87: the electrical angle. -/
def electricalAngle (current offset : Nat) : Nat := (current + offset) % 1024

/-- R88: the two duties of an electrical angle. -/
def coilDuties (theta : Nat) : PerCoil Int :=
  let r := theta % 256
  match theta / 256 with
  | 0 => ⟨sine r, sine (256 - r)⟩
  | 1 => ⟨sine (256 - r), -(sine r : Int)⟩
  | 2 => ⟨-(sine r : Int), -(sine (256 - r) : Int)⟩
  | _ => ⟨-(sine (256 - r) : Int), sine r⟩

/-- Both coils off (R89). -/
def coilsOff : PerCoil Int := ⟨0, 0⟩

/-- R85, R89: a gauge's coils set from its Current, or off when it is PARKED or DISABLED. -/
def GaugeRecord.drive (offset : Nat) (r : GaugeRecord) : GaugeRecord :=
  { r with duty :=
      match r.phase with
      | .parked | .disabled => coilsOff
      | _ => coilDuties (electricalAngle r.current offset) }

/-! ### The stages of a refresh (R70, R77, R78, R84, R89) -/

/-- R72: stage 1. -/
def setTargets (p : Panel) : Panel :=
  p.mapGauges fun g r => { r with target := phaseTarget (trackingValue p g) r.phase }

/-- R76, R84: stage 2; a gauge found REQUESTED is granted its hold here, and so does not move. -/
def moveGauges (p : Panel) : Panel :=
  p.mapGauges fun g r => r.move (p.gdr.calibration.slew.get g) (p.gdr.calibration.deadband.get g)

/-- R77: stage 3 for one gauge. -/
def GaugeRecord.judgePhase (deadband : Nat) (r : GaugeRecord) : GaugeRecord :=
  match r.phase with
  | .sweepDown => if angleGap r.target r.current ≤ deadband then { r with phase := .tracking } else r
  | .parking => if r.current = 0 then { r with phase := .parked } else r
  | _ => r

/-- R78: whether the sweep turns: some gauge is in SWEEP_UP, and every such gauge has Current 767. -/
def sweepTurns (p : Panel) : Bool :=
  allGauges.any (fun g => (p.gdr.gauges.get g).phase == .sweepUp) &&
  allGauges.all (fun g => (p.gdr.gauges.get g).phase != .sweepUp || (p.gdr.gauges.get g).current == 767)

/-- R77, R78: stage 3. -/
def judgePhases (p : Panel) : Panel :=
  let p := p.mapGauges fun g r => r.judgePhase (p.gdr.calibration.deadband.get g)
  if sweepTurns p then
    p.mapGauges fun _ r => if r.phase = .sweepUp then { r with phase := .sweepDown } else r
  else p

/-- R84, R89: stage 4: a free gauge is driven, a hold found REQUESTED is granted with both coils off, and a
held gauge's outputs are left to the Check Sequencer. -/
def driveGauges (p : Panel) : Panel :=
  p.mapGauges fun g r =>
    match r.hold with
    | .none => r.drive (p.gdr.calibration.elecOffset.get g)
    | .requested => { r with hold := .granted, duty := coilsOff }
    | .granted => r

/-- R90: the working calibration taken by the Gauge Driver, whole: at a refresh expiry, and when a recovery has
loaded it (assumption 41). -/
def takeGaugeCalibration (p : Panel) : Panel :=
  p.withGdr { p.gdr with calibration := p.nvs.calibration.forGauges }

/-- R70: the calibration taken, and the four stages, each over all five gauges before the next begins. -/
def refreshStages (p : Panel) : Panel :=
  driveGauges (judgePhases (moveGauges (setTargets (takeGaugeCalibration p))))

/-- R80: every gauge is PARKED or DISABLED. -/
def gaugesRest (p : Panel) : Bool :=
  allGauges.all fun g => (p.gdr.gauges.get g).phase == .parked || (p.gdr.gauges.get g).phase == .disabled

/-! ### Holds and coil results (R82 to R85) -/

/-- R84: a hold request. -/
def requestHold (g : Gauge) (p : Panel) : Panel :=
  let r := p.gdr.gauges.get g
  if r.hold = .none then p.withGauge g { r with hold := .requested } else p

/-- R83: a DISABLED gauge judged for return. -/
def GaugeRecord.judgeReturn (m : Mode) (r : GaugeRecord) : GaugeRecord :=
  if r.phase = .disabled ∧ r.faulted.sin = false ∧ r.faulted.cos = false then
    match m with
    | .run => { r with phase := .tracking }
    | .shutdown => { r with phase := .parking }
    | _ => r
  else r

/-- R85, R87: a hold release: the return judgement, and the coils set at once, by the ElecOffset that the Gauge Driver
holds (assumption 41). -/
def releaseHold (g : Gauge) (p : Panel) : Panel :=
  let r := { p.gdr.gauges.get g with hold := .none }
  p.withGauge g ((r.judgeReturn p.pmc.mode).drive (p.gdr.calibration.elecOffset.get g))

/-- R82, R83: a coil result taken by a gauge record. While the Check Sequencer holds the outputs, the duties
are its own (R84). -/
def GaugeRecord.takeResult (c : Coil) (fault : Bool) (r : GaugeRecord) : GaugeRecord :=
  let r := { r with faulted := r.faulted.set c fault }
  if fault then { r with phase := .disabled, duty := if r.hold = .granted then r.duty else coilsOff } else r

/-- R82, R83: a coil result delivered to the Gauge Driver. -/
def coilResult (g : Gauge) (c : Coil) (fault : Bool) (p : Panel) : Panel :=
  p.withGauge g ((p.gdr.gauges.get g).takeResult c fault)

/-- R89, R144: the Check Sequencer's full-duty drive of one coil. -/
def testDrive (g : Gauge) (c : Coil) (p : Panel) : Panel :=
  p.withGauge g { p.gdr.gauges.get g with duty := coilsOff.set c 255 }

/-! ### Mode entries (R79 to R81) -/

/-- R79: the gauges at a RUN entry, with the set the Gauge Driver holds (assumption 41) and the SweepEnable that works
(R90); the refresh timer starts when it is idle (R70). -/
def gaugesEnterRun (p : Panel) : Panel :=
  let p := p.mapGauges fun g r =>
    if r.phase = .disabled then r
    else
      let phase : Phase := if p.nvs.calibration.sweepEnable then .sweepUp else .tracking
      { r with phase := phase, target := phaseTarget (trackingValue p g) phase }
  p.withGdr { p.gdr with refreshTimer := some (p.gdr.refreshTimer.getD refreshInterval) }

/-- R80: the gauges at a SHUTDOWN entry. -/
def gaugesEnterShutdown (p : Panel) : Panel :=
  let p := p.mapGauges fun _ r => if r.phase = .disabled then r else { r with phase := .parking, target := 0 }
  p.withGdr { p.gdr with restDelivered := false }

/-- R81: the gauges at a STANDBY entry. -/
def gaugesEnterStandby (p : Panel) : Panel :=
  let p := p.mapGauges fun _ r =>
    let r := if r.phase = .parking then { r with phase := .parked, target := 0 } else r
    { r with duty := coilsOff }
  p.withGdr { p.gdr with refreshTimer := none }

end Sys2Proof.Machine
end

