-- ==== Sys2Proof/Machine/Check.lean ====
section
/-! DEFINITION. The Check Sequencer: results, the fault indication, the steps of a check, completion, abort
and driver overloads (R139 to R150). -/

namespace Sys2Proof.Machine

open Sys2Proof

/-- The part with its Check Sequencer replaced. -/
def Panel.withChk (c : Chk) (p : Panel) : Panel := { p with chk := c }

/-! ### The record (R139) -/

/-- Whether a result is OPEN or SHORT. -/
def CheckResult.isFault : CheckResult → Bool
  | .openCircuit | .short => true
  | _ => false

/-- The record of an item. -/
def Chk.item (c : Chk) : CheckItem → ItemRecord
  | .lamp l => c.lamps.get l
  | .coil g k => (c.coils.get g).get k

/-- The record with an item's record replaced. -/
def Chk.setItem (c : Chk) (i : CheckItem) (r : ItemRecord) : Chk :=
  match i with
  | .lamp l => { c with lamps := c.lamps.set l r }
  | .coil g k => { c with coils := c.coils.set g ((c.coils.get g).set k r) }

/-- The twenty items in index order (R139). -/
def allItems : List CheckItem :=
  allLamps.map CheckItem.lamp ++ allGauges.flatMap (fun g => [.coil g .sin, .coil g .cos])

/-- The index of an item in the check record (R139). -/
def itemIndex (i : CheckItem) : Nat := allItems.findIdx (fun j => j == i)

/-- R139: the number of items whose Result is OPEN or SHORT. -/
def Chk.countFaults (c : Chk) : Nat := allItems.countP fun i => (c.item i).result.isFault

/-- The record with FaultCount counted (R139). -/
def Chk.counted (c : Chk) : Chk := { c with faultCount := c.countFaults }

/-! ### The fault indication (R150) -/

/-- R150: whether a term of the indication holds. -/
def faultTerms (p : Panel) : Bool :=
  decide (0 < p.chk.faultCount) || allSenders.any (senderFault p) || p.nvs.calFault || p.dfa.odoLost

/-- R150: the indication formed, as a recovery does first, and delivered to the Warning Controller. -/
def formFaultIndication (p : Panel) : Panel :=
  judgeWarnings (p.withChk { p.chk with faultIndication := faultTerms p })

/-- R150: the indication judged afresh and delivered to the Warning Controller. Between a reset's beginning and the end
of its recovery it is not judged (assumption 49). -/
def judgeFaultIndication (p : Panel) : Panel :=
  if p.nvs.recoveryDone then formFaultIndication p else judgeWarnings p

/-! ### Recording a result (R139) -/

/-- R115, R139: a lamp's result delivered to the Warning Controller: SHORT sets Blocked, NORMAL clears it. -/
def lampResult (l : Lamp) (r : CheckResult) (p : Panel) : Panel :=
  let old := p.wrc.lamps.get l
  let blocked := match r with
    | .short => true
    | .normal => false
    | _ => old.blocked
  settleLamps (p.withWrc { p.wrc with lamps := p.wrc.lamps.set l { old with blocked := blocked } })

/-- R139: a result delivered to the block that acts on it. -/
def deliverResult (i : CheckItem) (r : CheckResult) (p : Panel) : Panel :=
  match i with
  | .lamp l => lampResult l r p
  | .coil g c => coilResult g c r.isFault p

/-- R139: a result recorded with its reading and cause, delivered, and the indication judged. -/
def recordResult (i : CheckItem) (r : ItemRecord) (p : Panel) : Panel :=
  judgeFaultIndication (deliverResult i r.result (p.withChk (p.chk.setItem i r).counted))

/-! ### Steps (R142 to R144) -/

/-- R143: the lamp after a lamp; none after CHARGE. -/
def nextLamp : Lamp → Option Lamp
  | .oil => some .temp
  | .temp => some .brake
  | .brake => some .door
  | .door => some .belt
  | .belt => some .fuel
  | .fuel => some .call
  | .call => some .check
  | .check => some .service
  | .service => some .charge
  | .charge => none

/-- The gauge after a gauge; none after OILP. -/
def nextGauge : Gauge → Option Gauge
  | .speedo => some .tacho
  | .tacho => some .fuel
  | .fuel => some .temp
  | .temp => some .oilp
  | .oilp => none

/-- R143: a lamp's step begins: its output is driven on and the drive time taken. -/
def beginLamp (l : Lamp) (p : Panel) : Panel :=
  settleLamps (p.withChk { p.chk with
    currentItem := some (.lamp l), phase := .driven, driveTime := some p.pcu.timebase })

/-- R144: a gauge's step begins with the hold request. DriveTime is absent outside DRIVEN (assumption 43). -/
def beginGauge (g : Gauge) (p : Panel) : Panel :=
  requestHold g (p.withChk { p.chk with
    currentItem := some (.coil g .sin), phase := .holdWait, driveTime := none })

/-- R144: a coil driven at full duty, the drive time taken. -/
def driveCoil (g : Gauge) (c : Coil) (p : Panel) : Panel :=
  testDrive g c (p.withChk { p.chk with
    currentItem := some (.coil g c), phase := .driven, driveTime := some p.pcu.timebase })

/-- R146: the check completes. DriveTime is absent outside DRIVEN (assumption 43). -/
def completeCheck (p : Panel) : Panel :=
  notifyAll .check (p.withChk { p.chk with
    state := .done, currentItem := none, phase := .none, driveTime := none })

/-- R142 to R144, R146: what follows the end of an item's part of the check: the next lamp, the first gauge,
the other coil under the same hold, or the release and the next gauge or the completion. DriveTime is absent until the
next item is driven (assumption 43). -/
def advanceCheck (i : CheckItem) (p : Panel) : Panel :=
  match i with
  | .lamp l =>
    let p := settleLamps (p.withChk { p.chk with phase := .none, driveTime := none })
    match nextLamp l with
    | some l' => beginLamp l' p
    | none => beginGauge .speedo p
  | .coil g .sin => driveCoil g .cos p
  | .coil g .cos =>
    let p := releaseHold g (p.withChk { p.chk with phase := .none, driveTime := none })
    match nextGauge g with
    | some g' => beginGauge g' p
    | none => completeCheck p

/-- R143: the result a SENSE reading gives. -/
def senseResult (reading : Byte) : CheckResult :=
  if reading.toNat ≤ 19 then .openCircuit else if reading.toNat ≤ 239 then .normal else .short

/-- R142: whether a conversion begun at `startedAt` belongs to the step driven at `drive`: it began 8,000 µs or more
after the drive. A difference in the upper half of the timebase is that of a conversion begun before the drive
(assumption 13). -/
def ofStep (drive startedAt : Micros) : Bool :=
  decide (settleTime ≤ elapsed drive startedAt) && decide (elapsed drive startedAt < 8388608)

/-- R142, R149, R22: a SENSE reading whose conversion began at `startedAt`: it ends the step it belongs to. -/
def senseReading (reading : Byte) (startedAt : Micros) (p : Panel) : Panel :=
  match p.chk.phase, p.chk.currentItem, p.chk.driveTime with
  | .driven, some i, some drive =>
    if ofStep drive startedAt then
      advanceCheck i (recordResult i ⟨senseResult reading, some reading, .step⟩ p)
    else p
  | _, _, _ => p

/-- R84, R144: the grant of a gauge's hold reaches the Check Sequencer, which drives the sin coil. -/
def holdGranted (g : Gauge) (p : Panel) : Panel :=
  if p.chk.phase = .holdWait ∧ p.chk.currentItem = some (.coil g .sin) then driveCoil g .sin p else p

/-! ### Starting (R140, R141) -/

/-- R140: the results of a starting check. -/
def Chk.start (source : CheckSource) (c : Chk) : Chk :=
  { c with
    state := .running
    source := source
    lamps := Chk.resetLamps
    coils := Chk.resetCoils
    faultCount := 0 }

/-- R140: a check starts: every result NOT_TESTED, item 0's step begun, the indication judged. -/
def startCheck (source : CheckSource) (p : Panel) : Panel :=
  judgeFaultIndication (beginLamp .oil (p.withChk (p.chk.start source)))

/-- R140: the automatic start of a RUN entry, with notice CHECK to all links. -/
def startAutomatic (p : Panel) : Panel := notifyAll .check (startCheck .auto p)

/-! ### Abort (R147) -/

/-- R147: a SHUTDOWN entry aborts a running check: the drive ends, and a hold is released. DriveTime is absent
outside DRIVEN (assumption 43). -/
def abortCheck (p : Panel) : Panel :=
  if p.chk.state = .running then
    let item := p.chk.currentItem
    let p := p.withChk { p.chk with
      state := .aborted, currentItem := none, phase := .none, driveTime := none }
    notifyAll .check
      (match item with
        | some (.coil g _) => releaseHold g p
        | _ => settleLamps p)
  else p

/-! ### Overloads (R148, R149) -/

/-- R149: whether an item is the one under test with its step DRIVEN. -/
def underTest (p : Panel) (i : CheckItem) : Bool :=
  p.chk.phase == .driven && p.chk.currentItem == some i

/-- R148, R149: a driver overload: SHORT with Cause OVERLOAD recorded and delivered, notice CHECK to all links,
and the end of the item's part of the check when it was under test. -/
def driverOverload (i : CheckItem) (p : Panel) : Panel :=
  let tested := underTest p i
  let p := notifyAll .check (recordResult i ⟨.short, none, .overload⟩ p)
  if tested then advanceCheck i p else p

/-- DRIVER_OVERLOAD (R148, R149). -/
def execDriverOverload (i : CheckItem) (s : State) : Host.Outcome State Fault Refusal := s.act (driverOverload i)

end Sys2Proof.Machine
end

