-- ==== Sys2Proof/Machine/Power.lean ====
section
/-! DEFINITION. The Power Mode Controller: mode entries, the supply-low line, the end of SHUTDOWN, and the
refresh expiry, whose gauges at rest reaches it (R70, R80, R189 to R195). -/

namespace Sys2Proof.Machine

open Sys2Proof

/-- The part with its Power Mode Controller replaced. -/
def Panel.withPmc (c : Pmc) (p : Panel) : Panel := { p with pmc := c }

/-- The part with its Converter replaced. -/
def Panel.withAdc (a : Adc) (p : Panel) : Panel := { p with adc := a }

/-- The part with its Switch Sampler replaced. -/
def Panel.withSws (w : Sws) (p : Panel) : Panel := { p with sws := w }

/-- R189: a mode entered, with notice MODE to all links. -/
def setMode (m : Mode) (p : Panel) : Panel := notifyAll .mode (p.withPmc { p.pmc with mode := m })

/-- R14: the Switch Sampler at a mode change: every candidate count 0, the next sample one interval of the new
mode away. -/
def Sws.modeChange (m : Mode) (w : Sws) : Sws :=
  { w with
    inputs := PerSwitch.map (fun i => { i with count := 0 }) w.inputs
    sampleTimer := Timer.start (sampleInterval m) }

/-- R17: a conversion begun. -/
def beginConversion (c : Channel) (now : Micros) : Conversion := ⟨c, now, Timer.start conversionTime⟩

/-- R17: the converter at a RUN entry: it starts with FUEL unless a round is going on. -/
def Adc.enterRun (now : Micros) (a : Adc) : Adc :=
  { a with conversion := some (a.conversion.getD (beginConversion .fuel now)) }

/-- R17, R20: the converter at a STANDBY entry: off, and every persistence timer idle. -/
def Adc.enterStandby (a : Adc) : Adc :=
  { a with conversion := none, faults := PerSender.map (fun f => { f with persistence := none }) a.faults }

/-- R182: the presence timers of PRESENT links restarted. -/
def LinkPort.restartPresence (port : LinkPort) : LinkPort :=
  if port.present then { port with presenceTimer := Timer.start presenceTime } else port

/-- R58: the instant window cleared. -/
def Trc.clearWindow (t : Trc) : Trc := { t with ring := Trc.reset.ring, current := Slot.zero }

/-- R193: the Power Mode Controller at a RUN entry. -/
def Pmc.enterRun (c : Pmc) : Pmc :=
  { c with
    shutdownTimer := none
    gaugesAtRest := false
    snapshotWritten := false
    bulbCheckTimer := Timer.start bulbCheckTime
    beltTimer := Timer.start beltTime }

/-- R193, R97: the Warning Controller at a RUN entry: bulb check, belt window and link grace. -/
def Wrc.enterRun (w : Wrc) : Wrc :=
  { w with bulbCheck := true, beltWindow := true, linkGraceTimer := Timer.start linkGraceTime }

/-- R193: RUN entered, from STARTUP, STANDBY or SHUTDOWN: the deliveries in the order of its table. -/
def enterRun (p : Panel) : Panel :=
  let p := setMode .run (p.withPmc p.pmc.enterRun)
  let p := p.withSws (p.sws.modeChange .run)
  let p := p.withAdc (p.adc.enterRun p.pcu.timebase)
  let p := p.withDfa { p.dfa with fuelSampleTimer := Timer.start fuelSampleInterval }
  let p := p.withTrc p.trc.clearWindow
  let p := gaugesEnterRun p
  let p := judgeWarnings (p.withWrc p.wrc.enterRun)
  let p := evaluate p
  let p := startAutomatic p
  p.withPorts (PerLink.map LinkPort.restartPresence p.lnk.ports)

/-- R194: the Power Mode Controller at a SHUTDOWN entry. -/
def Pmc.enterShutdown (c : Pmc) : Pmc :=
  { c with
    bulbCheckTimer := none
    beltTimer := none
    gaugesAtRest := false
    snapshotWritten := false
    shutdownTimer := Timer.start shutdownTime }

/-- R164: the latch cleared, and the window's write permission ended with it. -/
def Nvs.closeLatch (n : Nvs) : Nvs :=
  { n with unlockLatch := false, window := n.window.map (fun w => { w with writeEnabled := false }) }

/-- R155, R46: the snapshot job with E and the trip records as they stand. -/
def queueSnapshot (p : Panel) : Panel :=
  queueUrgent (.cells 34 (snapshotWords p.dfa.estimate p.trc.trips)) p

/-- R194, R93, R97, R114: the Warning Controller at a SHUTDOWN entry. -/
def Wrc.enterShutdown (w : Wrc) : Wrc :=
  { w with bulbCheck := false, beltWindow := false, linkGraceTimer := none }

/-- R194: SHUTDOWN entered: the snapshot job and the odometer job queued, and the deliveries of its table. An ARRIVAL
entry, which no level holds up, stays in the list and sounds on, where R113 names the entries of the other modes only
(DESIGN CHOICE, assumption 55). -/
def enterShutdown (p : Panel) : Panel :=
  let p := setMode .shutdown (p.withPmc p.pmc.enterShutdown)
  let p := p.withSws (p.sws.modeChange .shutdown)
  let p := queueSnapshot p
  let p := queueTenths (p.withDfa { p.dfa with fuelSampleTimer := none })
  let p := gaugesEnterShutdown p
  let p := judgeWarnings (p.withWrc p.wrc.enterShutdown)
  let p := abortCheck p
  p.withNvs p.nvs.closeLatch

/-- R195: STANDBY entered. -/
def enterStandby (p : Panel) : Panel :=
  let p := setMode .standby p
  let p := p.withSws (p.sws.modeChange .standby)
  let p := p.withAdc p.adc.enterStandby
  judgeWarnings (gaugesEnterStandby p)

/-- R195: the rest condition judged. -/
def judgeRest (p : Panel) : Panel :=
  if p.pmc.mode = .shutdown ∧ p.pmc.gaugesAtRest ∧ p.pmc.snapshotWritten then enterStandby p else p

/-- R195: GaugesAtRest becomes yes, and the shutdown timer idle. -/
def takeGaugesAtRest (p : Panel) : Panel :=
  if p.pmc.mode = .shutdown then
    judgeRest (p.withPmc { p.pmc with gaugesAtRest := true, shutdownTimer := none })
  else p

/-- R195: a snapshot written delivered in SHUTDOWN; in another mode it is not taken. -/
def takeSnapshotWritten (p : Panel) : Panel :=
  if p.pmc.mode = .shutdown then judgeRest (p.withPmc { p.pmc with snapshotWritten := true }) else p

/-- R191: STARTUP left once recovery is done and IGN_ON has settled. -/
def leaveStartup (p : Panel) : Panel :=
  if p.pmc.mode = .startup ∧ p.nvs.recoveryDone ∧ (p.sws.inputs.get .ignOn).accepted ≠ .unsettled then
    if inputActive p .ignOn && !p.pmc.supplyLow then enterRun p else enterStandby p
  else p

/-- R192: an accepted level of IGN_ON reaches the Power Mode Controller. -/
def takeIgnition (p : Panel) : Panel :=
  match p.pmc.mode with
  | .startup => leaveStartup p
  | .run => if inputActive p .ignOn then p else enterShutdown p
  | .shutdown | .standby => if inputActive p .ignOn && !p.pmc.supplyLow then enterRun p else p

/-! ### The refresh expiry (R70, R80, R84) -/

/-- R84: the grants of a refresh, delivered to the Check Sequencer. -/
def deliverGrants (before : PerGauge GaugeRecord) (p : Panel) : Panel :=
  allGauges.foldl (fun q g => if (before.get g).hold = .requested then holdGranted g q else q) p

/-- R80: gauges at rest judged at a refresh in SHUTDOWN, and delivered once for each SHUTDOWN entry. -/
def judgeGaugesRest (p : Panel) : Panel :=
  if p.pmc.mode = .shutdown ∧ gaugesRest p ∧ p.gdr.restDelivered = false then
    takeGaugesAtRest (p.withGdr { p.gdr with restDelivered := true })
  else p

/-- R70: a refresh expiry; the timer runs in RUN and SHUTDOWN only. -/
def refreshExpiry (p : Panel) : Panel :=
  if p.gdr.refreshTimer.isSome then
    let before := p.gdr.gauges
    let p := refreshStages (p.withGdr { p.gdr with refreshTimer := Timer.start refreshInterval })
    judgeGaugesRest (deliverGrants before p)
  else p

/-! ### The supply-low line and the timers (R190, R193, R195) -/

/-- R190, R163: SupplyLow becomes ASSERTED: the store removes NORMAL jobs, and RUN goes to SHUTDOWN. -/
def supplyLowAsserted (p : Panel) : Panel :=
  if p.pmc.supplyLow then p
  else
    let p := removeNormal (p.withPmc { p.pmc with supplyLow := true })
    if p.pmc.mode = .run then enterShutdown p else p

/-- R190, R192: SupplyLow becomes RELEASED: with IGN_ON accepted ACTIVE, SHUTDOWN or STANDBY goes to RUN. -/
def supplyLowReleased (p : Panel) : Panel :=
  if p.pmc.supplyLow then
    let p := p.withPmc { p.pmc with supplyLow := false }
    if (p.pmc.mode = .shutdown ∨ p.pmc.mode = .standby) ∧ inputActive p .ignOn then enterRun p else p
  else p

/-- R193: the bulb check's end. -/
def bulbCheckExpiry (p : Panel) : Panel :=
  if p.pmc.bulbCheckTimer.isSome then
    let p := p.withPmc { p.pmc with bulbCheckTimer := none }
    judgeWarnings (p.withWrc { p.wrc with bulbCheck := false })
  else p

/-- R193: the belt window's closing. -/
def beltTimerExpiry (p : Panel) : Panel :=
  if p.pmc.beltTimer.isSome then
    let p := p.withPmc { p.pmc with beltTimer := none }
    judgeWarnings (p.withWrc { p.wrc with beltWindow := false })
  else p

/-- R195: the shutdown timer's expiry. -/
def shutdownTimerExpiry (p : Panel) : Panel :=
  if p.pmc.shutdownTimer.isSome then takeGaugesAtRest p else p

/-- R97: the link grace's end. -/
def linkGraceExpiry (p : Panel) : Panel :=
  if p.wrc.linkGraceTimer.isSome then judgeWarnings (p.withWrc { p.wrc with linkGraceTimer := none }) else p

/-- REFRESH_EXPIRY (R70). -/
def execRefreshExpiry (s : State) : Host.Outcome State Fault Refusal := s.act refreshExpiry
/-- LINK_GRACE_EXPIRY (R97). -/
def execLinkGraceExpiry (s : State) : Host.Outcome State Fault Refusal := s.act linkGraceExpiry
/-- SUPPLY_LOW_ASSERTED (R190, R163). -/
def execSupplyLowAsserted (s : State) : Host.Outcome State Fault Refusal := s.act supplyLowAsserted
/-- SUPPLY_LOW_RELEASED (R190). -/
def execSupplyLowReleased (s : State) : Host.Outcome State Fault Refusal := s.act supplyLowReleased
/-- BULB_CHECK_EXPIRY (R193). -/
def execBulbCheckExpiry (s : State) : Host.Outcome State Fault Refusal := s.act bulbCheckExpiry
/-- BELT_TIMER_EXPIRY (R193). -/
def execBeltTimerExpiry (s : State) : Host.Outcome State Fault Refusal := s.act beltTimerExpiry
/-- SHUTDOWN_TIMER_EXPIRY (R195). -/
def execShutdownTimerExpiry (s : State) : Host.Outcome State Fault Refusal := s.act shutdownTimerExpiry

end Sys2Proof.Machine
end

