-- ==== Sys2Proof/Machine/Converter.lean ====
section
/-! DEFINITION. The Converter: conversions, converted values and sender faults (R17 to R22). -/

namespace Sys2Proof.Machine

open Sys2Proof

/-- R17: the channel converted after a channel. -/
def nextChannel : Channel → Channel
  | .fuel => .coolant
  | .coolant => .oil
  | .oil => .battery
  | .battery => .air
  | .air => .sense
  | .sense => .ref
  | .ref => .spare
  | .spare => .fuel

/-- R20: whether a reading is out of range. -/
def outOfRange (reading : Byte) : Bool := decide (reading.toNat ≤ 3) || decide (252 ≤ reading.toNat)

/-- R20, R21: a sender's fault record after a reading, and whether the reading updates the value. -/
def SenderFault.take (reading : Byte) (f : SenderFault) : SenderFault × Bool :=
  if f.flag then
    if outOfRange reading then ({ f with inRangeCount := 0 }, false)
    else if 50 ≤ f.inRangeCount + 1 then ({ f with flag := false, inRangeCount := 0 }, true)
    else ({ f with inRangeCount := f.inRangeCount + 1 }, false)
  else if outOfRange reading then
    ({ f with persistence := some (f.persistence.getD persistenceTime) }, false)
  else ({ f with persistence := none }, true)

/-- R19: the converted value of a sender, set from a reading. -/
def Adc.setValue (cal : Calibration) (s : Sender) (reading : Byte) (a : Adc) : Adc :=
  match s with
  | .fuel => { a with fuelLevel := some (curveValue cal.tankCurve reading.toNat).toNat }
  | .coolant => { a with coolantTemp := some (curveValue cal.coolantCurve reading.toNat) }
  | .oil => { a with oilPressure := some (curveValue cal.oilCurve reading.toNat).toNat }

/-- R20, R21: a completion of a channel with fault detection. -/
def Adc.takeSender (cal : Calibration) (s : Sender) (reading : Byte) (a : Adc) : Adc :=
  let r := (a.faults.get s).take reading
  let a := { a with faults := a.faults.set s r.1 }
  if r.2 then a.setValue cal s reading else a

/-- R18 to R21: the processing of a channel's new reading. -/
def Adc.process (cal : Calibration) (c : Channel) (reading : Byte) (a : Adc) : Adc :=
  match c with
  | .fuel => a.takeSender cal .fuel reading
  | .coolant => a.takeSender cal .coolant reading
  | .oil => a.takeSender cal .oil reading
  | .battery => { a with batteryVoltage := some (roundDiv (reading.toNat * 160) 255) }
  | .air => { a with airTemp := some (curveValue cal.airCurve reading.toNat) }
  | .sense | .ref | .spare => a

/-- R17: the conversion in progress completes with a reading; the next channel's conversion begins, the value
is processed and delivered, and a SENSE reading goes to the Check Sequencer (R22). While the converter is off
no conversion is in progress and nothing completes. -/
def conversionComplete (reading : Byte) (p : Panel) : Panel :=
  match p.adc.conversion with
  | none => p
  | some conv =>
    let c := conv.channel
    let a := { p.adc with
      readings := p.adc.readings.set c (some reading)
      analog := p.adc.analog.set c reading
      conversion := some (beginConversion (nextChannel c) p.pcu.timebase) }
    let p := judgeFaultIndication (p.withAdc (a.process p.nvs.calibration c reading))
    match c with
    | .sense => senseReading reading conv.startedAt p
    | _ => p

/-- R20: a persistence timer's expiry sets the fault flag. -/
def persistenceExpiry (s : Sender) (p : Panel) : Panel :=
  if (p.adc.faults.get s).persistence.isSome then
    judgeFaultIndication (p.withAdc { p.adc with faults := p.adc.faults.set s ⟨true, none, 0⟩ })
  else p

/-- CONVERSION_COMPLETE (R17). -/
def execConversionComplete (reading : Byte) (s : State) : Host.Outcome State Fault Refusal :=
  s.act (conversionComplete reading)
/-- PERSISTENCE_EXPIRY (R20). -/
def execPersistenceExpiry (sender : Sender) (s : State) : Host.Outcome State Fault Refusal :=
  s.act (persistenceExpiry sender)

end Sys2Proof.Machine
end

