-- ==== Sys2Proof/Config.lean ====
section
/-! DEFINITION. The values the manual leaves open, as constants without a body. -/

namespace Sys2Proof

/-- R152: a cell whose programming is cut off by a loss of keep-alive holds an unknown value. The value
is free: nothing in Lean can evaluate it. The argument is the number of such cells met before, which
`Machine.Nvs.unknownCount` counts (assumption 2). -/
opaque Config.unknownCell : Nat → StoreWord

end Sys2Proof
end

