-- ==== Sys2Proof/Machine/Operands.lean ====
section
/-! DEFINITION. Values in characters (R198): how a value travels in a request or a reply, the request
codes, the parameters of each request, and the status codes. -/

namespace Sys2Proof.Machine

open Sys2Proof

/-! ### Values in replies -/

/-- A value in one character. -/
def char1 (n : Nat) : List Byte := [BitVec.ofNat 8 n]

/-- A value in two characters, least significant first. -/
def char2 (n : Nat) : List Byte := [BitVec.ofNat 8 n, BitVec.ofNat 8 (n / 256)]

/-- A value in three characters, least significant first. -/
def char3 (n : Nat) : List Byte :=
  [BitVec.ofNat 8 n, BitVec.ofNat 8 (n / 256), BitVec.ofNat 8 (n / 65536)]

/-- A flag: 1 for yes, 0 for no. -/
def charFlag (b : Bool) : List Byte := char1 b.toNat

/-- A value in one character, or its not-available code. -/
def char1? : Option Nat → List Byte
  | some n => char1 n
  | none => char1 0xFF

/-- A value in two characters, or its not-available code. -/
def char2? : Option Nat → List Byte
  | some n => char2 n
  | none => char2 0xFFFF

/-- A value in three characters, or its not-available code. -/
def char3? : Option Nat → List Byte
  | some n => char3 n
  | none => char3 0xFFFFFF

/-- A signed value in two characters, in two's complement, or its not-available code. -/
def signed2? : Option Int → List Byte
  | some v => char2 (BitVec.ofInt 16 v).toNat
  | none => char2 0x8000

/-- A signed value in three characters, in two's complement, or its not-available code. -/
def signed3? : Option Int → List Byte
  | some v => char3 (BitVec.ofInt 24 v).toNat
  | none => char3 0x800000

/-- A mask of flags, the first in bit 0. -/
def maskOf : List Bool → Nat
  | [] => 0
  | b :: rest => b.toNat + 2 * maskOf rest

/-- The sum of characters, modulo 256. -/
def charSum : List Byte → Byte
  | [] => 0
  | c :: rest => c + charSum rest

/-! ### Status codes -/

/-- The statuses of R179, in the order of its table. -/
inductive Status where
  | ok | busy | notPermitted | notOwner | badValue | badMessage | unknown | locked | moving | notActive
  | bankActive | bankInvalid | wrongMode
  deriving DecidableEq, Repr

/-- The status character: the position in R179's table, from 0 (R198). -/
def Status.code : Status → Nat
  | .ok => 0
  | .busy => 1
  | .notPermitted => 2
  | .notOwner => 3
  | .badValue => 4
  | .badMessage => 5
  | .unknown => 6
  | .locked => 7
  | .moving => 8
  | .notActive => 9
  | .bankActive => 10
  | .bankInvalid => 11
  | .wrongMode => 12

/-- R179: the characters of a reply: the status, the data, and a check that brings the sum to 0. -/
def replyChars (status : Status) (data : List Byte) : List Byte :=
  let body := BitVec.ofNat 8 status.code :: data
  body ++ [-(charSum body)]

/-! ### Request codes and parameters -/

/-- R198: how many parameter characters the request with this code carries; none for a code that names no
request. -/
def paramCount (code : Nat) : Option Nat :=
  if code = 0 ∨ 33 < code then none
  else some <|
    match code with
    | 3 | 17 | 20 | 30 => 2
    | 9 | 14 | 15 | 16 | 18 | 21 | 23 | 31 => 1
    | 22 | 28 | 32 => 3
    | 25 => 13
    | _ => 0

/-- A parameter of two characters, least significant first. -/
def param2 (lo hi : Byte) : BitVec 16 := hi ++ lo

/-- A parameter of three characters, least significant first. -/
def param3 (lo mid hi : Byte) : BitVec 24 := (hi ++ mid : BitVec 16) ++ lo

/-- R198: the request that a code and its parameter characters spell; none when the code names no request
or the number of parameters is not the code's. -/
def requestOf (code : Nat) (params : List Byte) : Option Request :=
  match code, params with
  | 1, [] => some .presence
  | 2, [] => some .noticesRead
  | 3, [a, b] => some (.noticeMaskSet (param2 a b))
  | 4, [] => some .inputsRead
  | 5, [] => some .errorsRead
  | 6, [] => some .identityRead
  | 7, [] => some .valuesRead
  | 8, [] => some .odometerRead
  | 9, [a] => some (.tripRead a)
  | 10, [] => some .warningsRead
  | 11, [] => some .clockRead
  | 12, [] => some .serviceRead
  | 13, [] => some .checkRead
  | 14, [a] => some (.tripReset a)
  | 15, [a] => some (.tripHold a)
  | 16, [a] => some (.tripResume a)
  | 17, [a, b] => some (.tripSetDestination (param2 a b))
  | 18, [a] => some (.warningAck a)
  | 19, [] => some .call
  | 20, [a, b] => some (.overspeedSet (param2 a b))
  | 21, [a] => some (.rearQuietSet a)
  | 22, [a, b, c] => some (.clockSet (param3 a b c))
  | 23, [a] => some (.serviceReset a)
  | 24, [] => some .checkStart
  | 25, [slot, en, lab, k0, k1, d0, d1, l0, l1, l2, y0, y1, dr] =>
    some (.serviceWrite slot ⟨en, lab, param2 k0 k1, param2 d0 d1, param3 l0 l1 l2, param2 y0 y1, dr⟩)
  | 26, [] => some .storeOpen
  | 27, [] => some .storeStatus
  | 28, [r, i, m] => some (.windowSelect r i m)
  | 29, [] => some .windowRead
  | 30, [a, b] => some (.windowWrite (param2 a b))
  | 31, [a] => some (.bankSwitch a)
  | 32, [a, b, c] => some (.odometerSet (param3 a b c))
  | 33, [] => some .restart
  | _, _ => none

/-- R198: the code of a request. -/
def requestCode : Request → Nat
  | .presence => 1
  | .noticesRead => 2
  | .noticeMaskSet _ => 3
  | .inputsRead => 4
  | .errorsRead => 5
  | .identityRead => 6
  | .valuesRead => 7
  | .odometerRead => 8
  | .tripRead _ => 9
  | .warningsRead => 10
  | .clockRead => 11
  | .serviceRead => 12
  | .checkRead => 13
  | .tripReset _ => 14
  | .tripHold _ => 15
  | .tripResume _ => 16
  | .tripSetDestination _ => 17
  | .warningAck _ => 18
  | .call => 19
  | .overspeedSet _ => 20
  | .rearQuietSet _ => 21
  | .clockSet _ => 22
  | .serviceReset _ => 23
  | .checkStart => 24
  | .serviceWrite _ _ => 25
  | .storeOpen => 26
  | .storeStatus => 27
  | .windowSelect _ _ _ => 28
  | .windowRead => 29
  | .windowWrite _ => 30
  | .bankSwitch _ => 31
  | .odometerSet _ => 32
  | .restart => 33

/-- R198: the parameter characters of a request, in order. -/
def requestParams : Request → List Byte
  | .noticeMaskSet v | .tripSetDestination v | .overspeedSet v | .windowWrite v => char2 v.toNat
  | .tripRead a | .tripReset a | .tripHold a | .tripResume a | .warningAck a | .rearQuietSet a
  | .serviceReset a | .bankSwitch a => [a]
  | .clockSet v | .odometerSet v => char3 v.toNat
  | .windowSelect r i m => [r, i, m]
  | .serviceWrite slot w =>
    slot :: w.enabled :: w.labelCode :: (char2 w.intervalKm.toNat ++ char2 w.intervalDays.toNat ++
      char3 w.lastKm.toNat ++ char2 w.lastDay.toNat ++ [w.driverReset])
  | .presence | .noticesRead | .inputsRead | .errorsRead | .identityRead | .valuesRead | .odometerRead
  | .warningsRead | .clockRead | .serviceRead | .checkRead | .call | .checkStart | .storeOpen | .storeStatus
  | .windowRead | .restart => []

/-! ### Received characters (R174) -/

/-- A received character: its data, its mark bit and its two error marks. -/
structure RxChar where
  data : Byte
  mark : Bool
  noise : Bool
  framing : Bool
  deriving DecidableEq, Repr

/-- The majority of the three samples of bit `b` (R174). -/
def majority (samples : BitVec 33) (b : Nat) : Bool :=
  let x := samples.getLsbD (3 * b)
  let y := samples.getLsbD (3 * b + 1)
  let z := samples.getLsbD (3 * b + 2)
  (x && y) || (x && z) || (y && z)

/-- Whether the three samples of bit `b` do not all agree (R174). -/
def disagree (samples : BitVec 33) (b : Nat) : Bool :=
  let x := samples.getLsbD (3 * b)
  let y := samples.getLsbD (3 * b + 1)
  let z := samples.getLsbD (3 * b + 2)
  !((x == y) && (y == z))

/-- R173, R174: the character formed from the majorities of the eleven bits. -/
def rxChar (samples : BitVec 33) : RxChar where
  data := BitVec.ofNat 8 (maskOf ((List.range 8).map (fun i => majority samples (i + 1))))
  mark := majority samples 9
  noise := (List.range 11).any (disagree samples)
  framing := !majority samples 10

/-- R174: an errored character has either mark. -/
def RxChar.errored (c : RxChar) : Bool := c.noise || c.framing

end Sys2Proof.Machine
end

