-- ==== Sys2Proof/Machine/Reads.lean ====
section
/-! DEFINITION. The data characters of each reading request's reply (R16, R31, R68, R117, R131, R138, R151,
R172, R181, R185, R186, R188, R198). -/

namespace Sys2Proof.Machine

open Sys2Proof

/-! ### Positions of enumerations (R198) -/

/-- The reply code of a mode. -/
def modeCode : Mode → Nat
  | .startup => 0
  | .run => 1
  | .shutdown => 2
  | .standby => 3

/-- The reply code of a gauge's Phase. -/
def phaseCode : Phase → Nat
  | .parked => 0
  | .sweepUp => 1
  | .sweepDown => 2
  | .tracking => 3
  | .parking => 4
  | .disabled => 5

/-- The reply code of a Hold state. -/
def holdCode : Hold → Nat
  | .none => 0
  | .requested => 1
  | .granted => 2

/-- The reply code of a due state. -/
def dueCode : DueState → Nat
  | .inactive => 0
  | .ok => 1
  | .dueSoon => 2
  | .due => 3
  | .overdue => 4

/-- The reply code of a check State. -/
def checkStateCode : CheckState → Nat
  | .idle => 0
  | .running => 1
  | .done => 2
  | .aborted => 3

/-- The reply code of a check Source. -/
def sourceCode : CheckSource → Nat
  | .absent => 0
  | .auto => 1
  | .front => 2
  | .service => 3

/-- The reply code of a step phase. -/
def stepPhaseCode : StepPhase → Nat
  | .none => 0
  | .holdWait => 1
  | .driven => 2

/-- The reply code of a Result. -/
def resultCode : CheckResult → Nat
  | .notTested => 0
  | .normal => 1
  | .openCircuit => 2
  | .short => 3

/-- The reply code of a Cause. -/
def causeCode : Cause → Nat
  | .absent => 0
  | .step => 1
  | .overload => 2

/-- The reply code of a player's State. -/
def playerCode : PlayerState → Nat
  | .idle => 0
  | .strike _ _ | .ending _ _ => 1
  | .gap _ _ => 2
  | .rest => 3

/-- A player's Served as a kind number, 0 for absent. -/
def servedCode : PlayerState → Nat
  | .strike k _ | .ending k _ | .gap k _ => kindNumber k
  | _ => 0

/-- The reply code of a region (R198: the order of R152). -/
def regionCode : Region → Nat
  | .odoRing => 0
  | .day => 1
  | .snapshot => 2
  | .serviceTable => 3
  | .control => 4
  | .calA => 5
  | .calB => 6
  | .identity => 7
  | .unused => 8

/-- The reply code of a window mode. -/
def windowModeCode : WindowMode → Nat
  | .noStep => 0
  | .stepBoth => 1
  | .stepWrite => 2

/-- The reply code of a bank, or of none. -/
def bankCode : Option Bank → Nat
  | some .a => 0
  | some .b => 1
  | none => 2

/-- The reply code of a job's class. -/
def classCode : JobClass → Nat
  | .urgent => 0
  | .normal => 1

/-- The reply code of a job's origin. -/
def originCode : Origin → Nat
  | .internal => 0
  | .service => 1
  | .front => 2

/-! ### Conversions made at the reply -/

/-- R31: the odometer in reply units. -/
def odometerReply (p : Panel) : Nat :=
  if p.pmc.imperial then duToMiles (p.dfa.odometer * 10) else p.dfa.odometer

/-- R188: a temperature in °F: a negative value has its magnitude rounded as R1 states and its sign kept
(assumption 45). -/
def fahrenheit (c : Int) : Int :=
  let n := c * 9 + 160
  if 0 ≤ n then (roundDiv n.toNat 5 : Int) else -(roundDiv (-n).toNat 5 : Int)

/-- A temperature in reply units. -/
def temperatureReply (p : Panel) (t : Option Int) : Option Int :=
  if p.pmc.imperial then t.map fahrenheit else t

/-- R131: RemKm in reply units: the sign with the converted magnitude. -/
def remKmReply (p : Panel) (r : Option Int) : Option Int :=
  if p.pmc.imperial then
    r.map (fun v => if 0 ≤ v then (kmToMiles v.natAbs : Int) else -(kmToMiles v.natAbs : Int))
  else r

/-- A volume of 0.1 L in reply units (R42). -/
def litresReply (p : Panel) (x : Option Nat) : Option Nat :=
  if p.pmc.imperial then x.map litresToGallons else x

/-- A distance of DU in reply units (R66). -/
def duReply (p : Panel) (x : Nat) : Nat := if p.pmc.imperial then duToMiles x else x

/-- mL in reply units (R66). -/
def mlReply (p : Panel) (x : Nat) : Nat := if p.pmc.imperial then mlToGallons x else x

/-- km or 0.1 km/h in reply units (R66, R188). -/
def kmReply (p : Panel) (x : Nat) : Nat := if p.pmc.imperial then kmToMiles x else x

/-! ### The replies -/

/-- PRESENCE (R186). -/
def presenceData (l : Link) (p : Panel) : List Byte :=
  let port := p.lnk.ports.get l
  char1 (modeCode p.pmc.mode) ++ char1 (maskOf [port.noticeSet != 0, port.attentionLow])

/-- NOTICES_READ (R185). -/
def noticesData (l : Link) (p : Panel) : List Byte :=
  let port := p.lnk.ports.get l
  char2 port.noticeSet.toNat ++ char2 port.noticeMask.toNat

/-- ERRORS_READ (R181). -/
def errorsData (l : Link) (p : Panel) : List Byte :=
  let port := p.lnk.ports.get l
  char1 port.charErrors ++ char1 port.discardedMessages ++ char1 port.overruns

/-- INPUTS_READ (R16): the accepted levels, then the link's seen-change set. -/
def inputsData (l : Link) (p : Panel) : List Byte :=
  char2 (maskOf (allInputs.map (inputActive p))) ++ char2 (p.sws.seen.get l).toNat

/-- IDENTITY_READ (R167): the 16 cells in address order. -/
def identityData (p : Panel) : List Byte :=
  (List.range 16).flatMap fun i => char2 (p.nvs.readCell (416 + i)).toNat

/-- ODOMETER_READ (R31). -/
def odometerData (p : Panel) : List Byte :=
  char3 (odometerReply p) ++ char1 (maskOf [p.dfa.odoLost, p.pmc.imperial])

/-- CLOCK_READ (R138). -/
def clockData (p : Panel) : List Byte :=
  char3 p.svm.timeOfDay ++ charFlag p.svm.clockSet ++ char3 p.svm.dayTimer ++ char2 p.svm.dayCount

/-- A gauge's part of VALUES_READ (R91). -/
def gaugeData (r : GaugeRecord) : List Byte :=
  char1 (phaseCode r.phase) ++ char2 r.current ++ char2 r.target ++ char1 (holdCode r.hold) ++
  char1 (maskOf [r.faulted.sin, r.faulted.cos])

/-- VALUES_READ (R188): units flag, PCU, ADC, DFA, TRC and GDR values in the order of its table. -/
def valuesData (p : Panel) : List Byte :=
  charFlag p.pmc.imperial ++
  char2 (kmReply p p.pcu.speedV) ++ char2 p.pcu.engineN ++ charFlag p.pcu.engineRunning ++
  char2 p.pcu.engineRunTime ++ charFlag p.pcu.stationary ++ char2 p.pcu.stationaryTime ++
  allChannels.flatMap (fun c => char2? ((p.adc.readings.get c).map BitVec.toNat)) ++
  char2? (litresReply p p.adc.fuelLevel) ++ signed2? (temperatureReply p p.adc.coolantTemp) ++
  char2? p.adc.oilPressure ++ char1? p.adc.batteryVoltage ++ signed2? (temperatureReply p p.adc.airTemp) ++
  allSenders.flatMap (fun s => charFlag (senderFault p s)) ++
  char3 (odometerReply p) ++ char2? (litresReply p p.dfa.estimate) ++
  char3? (instantValue p).2 ++ char1 (instantValue p).1.code ++
  char2? ((rangeKm p).map (kmReply p)) ++
  allGauges.flatMap (fun g => gaugeData (p.gdr.gauges.get g))

/-- TRIP_READ (R68). -/
def tripData (i : TripId) (p : Panel) : List Byte :=
  let r := p.trc.trips.get i
  let journey := i == .journey
  let destination := if journey then p.trc.destinationKm else none
  let remaining := if journey then remainingDistance p.trc else none
  let armed := journey && p.trc.arrivalArmed
  char1 i.idx ++
  char1 (maskOf [r.held, r.previous.isSome, destination.isSome, armed, p.pmc.imperial]) ++
  char3 (duReply p r.counts.distance) ++ char3 (mlReply p r.counts.fuel) ++ char3 r.counts.runTime ++
  char3? (r.previous.map fun c => duReply p c.distance) ++ char3? (r.previous.map fun c => mlReply p c.fuel) ++
  char3? (r.previous.map TripCounts.runTime) ++
  char2? ((averageSpeed r.counts).map (kmReply p)) ++
  char2? (if p.pmc.imperial then averageEconomy r.counts else averageConsumption r.counts) ++
  char2? (destination.map (kmReply p)) ++ char3? (remaining.map (duReply p)) ++
  char2? (if journey then eta p.trc else none)

/-- An entry's part of WARNINGS_READ (R117). -/
def entryData (e : WarningEntry) : List Byte :=
  char1 (kindNumber e.kind) ++
  char1 (maskOf [e.conditionPresent, e.pending.front, e.pending.rear, e.acked.front, e.acked.rear,
    e.resound.isSome]) ++
  char3 e.raisedAt

/-- WARNINGS_READ (R117). -/
def warningsData (p : Panel) : List Byte :=
  char1 p.wrc.entries.length ++ p.wrc.entries.flatMap entryData ++
  char1 (playerCode p.wrc.players.front.state) ++ char1 (servedCode p.wrc.players.front.state) ++
  char1 (playerCode p.wrc.players.rear.state) ++ char1 (servedCode p.wrc.players.rear.state) ++
  char2 (maskOf (allLamps.map fun l => (p.wrc.lamps.get l).output)) ++
  char2 (maskOf (allLamps.map fun l => (p.wrc.lamps.get l).blocked)) ++
  charFlag p.wrc.rearQuiet ++ char2 p.wrc.overspeedSetpoint

/-- An item's part of SERVICE_READ (R131). -/
def itemData (p : Panel) (it : ServiceItem) : List Byte :=
  charFlag it.enabled ++ char1 it.labelCode ++ char2 it.intervalKm ++ char2 it.intervalDays ++
  char3 it.lastKm ++ char2 it.lastDay ++ charFlag it.driverReset ++ char1 (dueCode it.state) ++
  signed3? (remKmReply p (remKm it (odoKm p))) ++ signed3? (remDays it p.svm.dayCount)

/-- SERVICE_READ (R131): units flag, items, counts and thresholds. -/
def serviceData (p : Panel) : List Byte :=
  charFlag p.pmc.imperial ++ allSlots.flatMap (fun i => itemData p (p.svm.items.get i)) ++
  char3 (odoKm p) ++ char2 p.svm.dayCount ++
  char2 p.nvs.calibration.soonKm ++ char2 p.nvs.calibration.soonDays ++
  char2 p.nvs.calibration.overdueKm ++ char2 p.nvs.calibration.overdueDays

/-- CHECK_READ (R151). -/
def checkData (p : Panel) : List Byte :=
  char1 (checkStateCode p.chk.state) ++ char1 (sourceCode p.chk.source) ++
  char1? (p.chk.currentItem.map itemIndex) ++ char1 (stepPhaseCode p.chk.phase) ++
  allItems.flatMap (fun i =>
    let r := p.chk.item i
    char1 (resultCode r.result) ++ char2? (r.reading.map BitVec.toNat) ++ char1 (causeCode r.cause)) ++
  char1 p.chk.faultCount ++ allSenders.flatMap (fun s => charFlag (senderFault p s)) ++
  charFlag p.nvs.calFault ++ charFlag p.dfa.odoLost ++ charFlag p.chk.faultIndication

/-- A job's part of STORE_STATUS (R172, R198). -/
def jobDataOf (j : WriteJob) : List Byte :=
  char1 (classCode j.jobClass) ++ char1 (originCode j.origin) ++
  (match j.data with
    | .odometer _ => char2 0 ++ char1 32
    | .cells first ws => char2 first ++ char1 ws.length) ++
  char2? j.progress

/-- The window's part of STORE_STATUS (R172, R198). -/
def windowData : Option Window → List Byte
  | none => char1 0xFF ++ char1 0 ++ char1 0 ++ char1 0
  | some w =>
    char1 (regionCode w.region) ++ char1 w.index ++ char1 (windowModeCode w.mode) ++ charFlag w.writeEnabled

/-- STORE_STATUS (R172). -/
def storeData (p : Panel) : List Byte :=
  charFlag p.nvs.unlockLatch ++ windowData p.nvs.window ++
  char1 p.nvs.jobCount ++ p.nvs.inOrder.flatMap jobDataOf ++
  charFlag p.nvs.switchInFlight ++ char1 (bankCode p.nvs.activeBank) ++
  char1 (bankCode (selectorBank p.nvs.cells)) ++ charFlag p.nvs.calFault ++ charFlag p.nvs.odometerLock ++
  char1 p.nvs.ringPointer ++ charFlag p.nvs.formatGood

end Sys2Proof.Machine
end

