-- ==== Sys2Proof/Machine/Requests.lean ====
section
/-! DEFINITION. What each request does when it is taken: the checks of its owning block in their order, its
effect, and its reply. -/

namespace Sys2Proof.Machine

open Sys2Proof

/-- What taking a request gives (R179): a status, the reply's data, and the part after it. -/
structure Answer where
  status : Status
  data : List Byte
  panel : Panel
  deriving DecidableEq, Repr

/-- R179: a refusal carries no data and leaves the owning block unchanged. -/
def refuse (status : Status) (p : Panel) : Answer := ⟨status, [], p⟩

/-- An accepted request without data. -/
def accept (p : Panel) : Answer := ⟨.ok, [], p⟩

/-- An accepted request that reads, with its data. -/
def acceptData (data : List Byte) (p : Panel) : Answer := ⟨.ok, data, p⟩

/-- R52, R126 and the like: the first check that fails gives the reply. -/
def firstRefusal : List (Bool × Status) → Option Status
  | [] => none
  | (holds, status) :: rest => if holds then firstRefusal rest else some status

/-- A request that passes its checks in order is carried out; otherwise the first failing check refuses it. -/
def judged (checks : List (Bool × Status)) (effect : Panel → Answer) (p : Panel) : Answer :=
  match firstRefusal checks with
  | some status => refuse status p
  | none => effect p

/-! ### The Link Ports' own requests -/

/-- PRESENCE (R186). -/
def takePresence (l : Link) (p : Panel) : Answer := acceptData (presenceData l p) p

/-- NOTICES_READ (R185): the reply, and then the set emptied. -/
def takeNoticesRead (l : Link) (p : Panel) : Answer :=
  acceptData (noticesData l p) (p.withPort l { p.lnk.ports.get l with noticeSet := 0 })

/-- NOTICE_MASK_SET (R185, R198): bits 9 to 15 must be clear. -/
def takeNoticeMaskSet (l : Link) (mask : BitVec 16) (p : Panel) : Answer :=
  judged [(decide (mask.toNat < 512), .badValue)]
    (fun p => accept (p.withPort l { p.lnk.ports.get l with noticeMask := mask.setWidth 9 })) p

/-- ERRORS_READ (R181): the reply, and then the three counters cleared. -/
def takeErrorsRead (l : Link) (p : Panel) : Answer :=
  acceptData (errorsData l p)
    (p.withPort l { p.lnk.ports.get l with charErrors := 0, discardedMessages := 0, overruns := 0 })

/-- RESTART (R180, R197): answered OK; the restart begins when the reply ends. -/
def takeRestart (p : Panel) : Answer := accept { p with lnk := { p.lnk with restartArmed := true } }

/-! ### Reads -/

/-- INPUTS_READ (R16): the reply, and then the link's seen-change set cleared. -/
def takeInputsRead (l : Link) (p : Panel) : Answer :=
  acceptData (inputsData l p) (p.withSws { p.sws with seen := p.sws.seen.set l 0 })

/-- IDENTITY_READ (R167). -/
def takeIdentityRead (p : Panel) : Answer := acceptData (identityData p) p
/-- VALUES_READ (R188). -/
def takeValuesRead (p : Panel) : Answer := acceptData (valuesData p) p
/-- ODOMETER_READ (R31). -/
def takeOdometerRead (p : Panel) : Answer := acceptData (odometerData p) p
/-- WARNINGS_READ (R117). -/
def takeWarningsRead (p : Panel) : Answer := acceptData (warningsData p) p
/-- CLOCK_READ (R138). -/
def takeClockRead (p : Panel) : Answer := acceptData (clockData p) p
/-- SERVICE_READ (R131). -/
def takeServiceRead (p : Panel) : Answer := acceptData (serviceData p) p
/-- CHECK_READ (R151). -/
def takeCheckRead (p : Panel) : Answer := acceptData (checkData p) p
/-- STORE_STATUS (R172). -/
def takeStoreStatus (p : Panel) : Answer := acceptData (storeData p) p

/-- TRIP_READ (R44, R68). -/
def takeTripRead (index : Byte) (p : Panel) : Answer :=
  match TripId.ofIdx index.toNat with
  | none => refuse .badValue p
  | some i => acceptData (tripData i p) p

/-! ### Trips (R52 to R57) -/

/-- TRIP_RESET (R52, R53). -/
def takeTripReset (l : Link) (index : Byte) (p : Panel) : Answer :=
  match TripId.ofIdx index.toNat with
  | none => refuse .badValue p
  | some i => judged [(mayChange p l i, .notOwner)] (fun p => accept (resetTrip i l p)) p

/-- TRIP_HOLD and TRIP_RESUME (R52, R54). -/
def takeTripState (l : Link) (index : Byte) (held : Bool) (p : Panel) : Answer :=
  match TripId.ofIdx index.toNat with
  | none => refuse .badValue p
  | some i =>
    judged [(mayChange p l i, .notOwner), (i != .tank, .badValue)] (fun p => accept (setHeld i held l p)) p

/-- TRIP_SET_DESTINATION (R57). -/
def takeDestination (l : Link) (km : BitVec 16) (p : Panel) : Answer :=
  judged [(mayChange p l .journey, .notOwner), (decide (km.toNat ≤ 9999), .badValue)]
    (fun p => accept (notifyOthers .trip l (p.withTrc
      { p.trc with
        destinationKm := if km.toNat = 0 then none else some km.toNat
        arrivalArmed := decide (km.toNat ≠ 0) }))) p

/-! ### Warnings (R98, R99, R104 to R106) -/

/-- R105: the sounders a link acknowledges for a kind. -/
def ackSounders (l : Link) (k : WarningKind) : PerSounder Bool :=
  match l with
  | .front => ⟨(kindSounders k).front, false⟩
  | .rear => ⟨false, (kindSounders k).rear⟩
  | .service => kindSounders k

/-- R105, R106: an entry acknowledged: each sounder leaves Pending and joins Acked, and sounder F's re-sound
timer starts again for a CONTINUOUS kind with an interval, or is cancelled for a ONCE kind. -/
def WarningEntry.ack (sounders : PerSounder Bool) (e : WarningEntry) : WarningEntry :=
  { e with
    pending := ⟨e.pending.front && !sounders.front, e.pending.rear && !sounders.rear⟩
    acked := ⟨e.acked.front || sounders.front, e.acked.rear || sounders.rear⟩
    resound :=
      if sounders.front then
        if isContinuous e.kind then
          match resoundInterval e.kind with
          | some interval => Timer.start interval
          | none => e.resound
        else none
      else e.resound }

/-- R105: whether an ack changes an entry's Pending or Acked. -/
def ackChanges (sounders : PerSounder Bool) (e : WarningEntry) : Bool :=
  (e.ack sounders).pending != e.pending || (e.ack sounders).acked != e.acked

/-- R105, R106: an acknowledgement carried out. -/
def acknowledge (l : Link) (k : WarningKind) (e : WarningEntry) (p : Panel) : Panel :=
  let sounders := ackSounders l k
  let q := p.withWrc (p.wrc.modifyEntry k (WarningEntry.ack sounders))
  let q := if ackChanges sounders e then notifyOthers .warnings l q else q
  settleWarnings (judgeRemoval k q)

/-- WARNING_ACK (R105, R106). -/
def takeWarningAck (l : Link) (kind : Byte) (p : Panel) : Answer :=
  match kindOf kind.toNat with
  | none => refuse .badValue p
  | some k =>
    match p.wrc.entry k with
    | none => refuse .notActive p
    | some e =>
      judged [((ackSounders l k).front || (ackSounders l k).rear, .notActive), (isAckable k, .notPermitted)]
        (fun p => accept (acknowledge l k e p)) p

/-- CALL (R99): from REAR it raises REAR_CALL, from FRONT it raises ARRIVAL in RUN. -/
def takeCall (l : Link) (p : Panel) : Answer :=
  match l with
  | .rear => judged [(p.pmc.mode != .startup, .wrongMode)] (fun p => accept (raiseEvent .rearCall p)) p
  | _ => judged [(p.pmc.mode == .run, .wrongMode)] (fun p => accept (raiseEvent .arrival p)) p

/-- OVERSPEED_SET (R98). -/
def takeOverspeedSet (setpoint : BitVec 16) (p : Panel) : Answer :=
  judged [(setpoint.toNat == 0 || within 300 2500 setpoint.toNat, .badValue)]
    (fun p => accept (judgeWarnings (p.withWrc { p.wrc with overspeedSetpoint := setpoint.toNat }))) p

/-- R104: RearQuiet becomes yes: sounder R leaves Pending of every entry of kinds 5 to 15, and each is judged
for removal. -/
def makeRearQuiet (p : Panel) : Panel :=
  let p := p.withWrc { p.wrc with
    rearQuiet := true
    entries := p.wrc.entries.map fun e =>
      if 5 ≤ kindNumber e.kind then { e with pending := { e.pending with rear := false } } else e }
  settleWarnings ((allKinds.filter (fun k => decide (5 ≤ kindNumber k))).foldl (fun q k => judgeRemoval k q) p)

/-- REAR_QUIET_SET (R104). -/
def takeRearQuietSet (value : Byte) (p : Panel) : Answer :=
  judged [(decide (value.toNat ≤ 1), .badValue)]
    (fun p => accept (if value.toNat = 1 then makeRearQuiet p else p.withWrc { p.wrc with rearQuiet := false })) p

/-! ### Clock (R134) -/

/-- CLOCK_SET (R134). -/
def takeClockSet (l : Link) (time : BitVec 24) (p : Panel) : Answer :=
  judged [(decide (time.toNat ≤ 86399), .badValue)]
    (fun p => accept (notifyOthers .clock l
      (p.withSvm { p.svm with timeOfDay := time.toNat, clockSet := true }))) p

/-! ### Service items (R125 to R130) -/

/-- R164: the unlock latch consumed. -/
def consumeLatch (p : Panel) : Panel := p.withNvs { p.nvs with unlockLatch := false }

/-- R127, R130: an item stored: the table takes it, its job is queued, notice SERVICE goes to the other links,
and the table is evaluated. -/
def storeItem (i : SlotId) (it : ServiceItem) (origin : Origin) (l : Link) (p : Panel) : Panel :=
  let p := p.withSvm { p.svm with items := p.svm.items.set i it }
  evaluate (notifyOthers .service l (queueJob ⟨itemJobData i it, .normal, origin, none⟩ p))

/-- R127: an item reset at the present odometer and day count. -/
def resetItem (p : Panel) (i : SlotId) : ServiceItem :=
  { p.svm.items.get i with lastKm := odoKm p, lastDay := p.svm.dayCount }

/-- R126: whether a driver may reset an item in this State. -/
def DueState.nearDue : DueState → Bool
  | .dueSoon | .due | .overdue => true
  | _ => false

/-- SERVICE_RESET (R125 from SERVICE, R126 from FRONT, R127). -/
def takeServiceReset (l : Link) (slot : Byte) (p : Panel) : Answer :=
  match SlotId.ofIdx slot.toNat with
  | none => refuse .badValue p
  | some i =>
    match l with
    | .service =>
      judged [(p.nvs.unlockLatch, .locked), (storeAccepts 1 p, .busy)]
        (fun p => accept (storeItem i (resetItem p i) .service l (consumeLatch p))) p
    | _ =>
      judged [(p.pmc.mode == .run, .wrongMode), ((p.svm.items.get i).driverReset, .notPermitted),
          ((p.svm.items.get i).state.nearDue, .badValue), (p.pcu.stationary, .moving), (storeAccepts 1 p, .busy)]
        (fun p => accept (storeItem i (resetItem p i) .front l p)) p

/-- R129: whether the carried fields lie in their ranges. -/
def ItemParams.inRange (w : ItemParams) : Bool :=
  decide (w.labelCode.toNat ≤ 15) && decide (w.intervalKm.toNat ≤ 65000) && decide (w.intervalDays.toNat ≤ 1000) &&
  decide (w.enabled.toNat ≤ 1) && decide (w.driverReset.toNat ≤ 1)

/-- R130: the item a SERVICE_WRITE carries; its State is the evaluation's. -/
def ItemParams.toItem (w : ItemParams) (state : DueState) : ServiceItem :=
  ⟨w.enabled.toNat == 1, w.labelCode.toNat, w.intervalKm.toNat, w.intervalDays.toNat, w.lastKm.toNat,
   w.lastDay.toNat, w.driverReset.toNat == 1, state⟩

/-- SERVICE_WRITE (R129, R130). -/
def takeServiceWrite (l : Link) (slot : Byte) (w : ItemParams) (p : Panel) : Answer :=
  match SlotId.ofIdx slot.toNat with
  | none => refuse .badValue p
  | some i =>
    judged [(p.nvs.unlockLatch, .locked), (ItemParams.inRange w, .badValue),
        (decide (w.lastKm.toNat ≤ odoKm p) && decide (w.lastDay.toNat ≤ p.svm.dayCount), .badValue),
        (storeAccepts 1 p, .busy)]
      (fun p => accept
        (storeItem i (ItemParams.toItem w (p.svm.items.get i).state) .service l (consumeLatch p))) p

/-! ### Check (R141) -/

/-- R140: the Source of a requested check. -/
def requestSource : Link → CheckSource
  | .service => .service
  | _ => .front

/-- CHECK_START (R141, R140). -/
def takeCheckStart (l : Link) (p : Panel) : Answer :=
  judged [(p.pmc.mode == .run, .wrongMode), (p.chk.state != .running, .busy)]
    (fun p => accept (notifyOthers .check l (startCheck (requestSource l) p))) p

/-! ### Store (R164 to R170) -/

/-- STORE_OPEN (R164). -/
def takeStoreOpen (p : Panel) : Answer := accept (p.withNvs { p.nvs with unlockLatch := true })

/-- R198: the region a code names. -/
def regionOf : Nat → Option Region
  | 0 => some .odoRing
  | 1 => some .day
  | 2 => some .snapshot
  | 3 => some .serviceTable
  | 4 => some .control
  | 5 => some .calA
  | 6 => some .calB
  | 7 => some .identity
  | 8 => some .unused
  | _ => none

/-- R198: the window mode a code names. -/
def windowModeOf : Nat → Option WindowMode
  | 0 => some .noStep
  | 1 => some .stepBoth
  | 2 => some .stepWrite
  | _ => none

/-- R166: a region's size in cells. -/
def Region.size : Region → Nat
  | .odoRing => 32
  | .day => 2
  | .snapshot => 30
  | .serviceTable => 24
  | .control => 8
  | .calA | .calB => 160
  | .identity => 16
  | .unused => 80

/-- R152: a region's first cell. -/
def Region.first : Region → Nat
  | .odoRing => 0
  | .day => 32
  | .snapshot => 34
  | .serviceTable => 64
  | .control => 88
  | .calA => 96
  | .calB => 256
  | .identity => 416
  | .unused => 432

/-- WINDOW_SELECT (R166, R164). -/
def takeWindowSelect (region index mode : Byte) (p : Panel) : Answer :=
  match regionOf region.toNat, windowModeOf mode.toNat with
  | some r, some m =>
    judged [(decide (index.toNat < r.size), .badValue)]
      (fun p => accept (p.withNvs { p.nvs with
        window := some ⟨r, index.toNat, m, p.nvs.unlockLatch⟩
        unlockLatch := false })) p
  | _, _ => refuse .badValue p

/-- R167: a step of the index; past the last cell it wraps to 0 and ends the write permission. -/
def Window.step (w : Window) : Window :=
  if w.index + 1 < w.region.size then { w with index := w.index + 1 }
  else { w with index := 0, writeEnabled := false }

/-- R152, R162: the cell at a window's index; an UNUSED cell reads 0. -/
def windowCell (n : Nvs) (w : Window) : StoreWord :=
  match w.region with
  | .unused => 0
  | r => n.readCell (r.first + w.index)

/-- WINDOW_READ (R167). -/
def takeWindowRead (p : Panel) : Answer :=
  match p.nvs.window with
  | none => refuse .badValue p
  | some w =>
    acceptData (char2 (windowCell p.nvs w).toNat)
      (p.withNvs { p.nvs with window := some (if w.mode = .stepBoth then w.step else w) })

/-- R168: whether a region is the active bank. -/
def isActiveBank (n : Nvs) : Region → Bool
  | .calA => n.activeBank == some .a
  | .calB => n.activeBank == some .b
  | _ => false

/-- R168: the regions no window write may reach. -/
def Region.protectedFromWindow : Region → Bool
  | .odoRing | .day | .snapshot | .control => true
  | _ => false

/-- Whether a region is a calibration bank. -/
def Region.isBank : Region → Bool
  | .calA | .calB => true
  | _ => false

/-- WINDOW_WRITE (R168). -/
def takeWindowWrite (value : StoreWord) (p : Panel) : Answer :=
  match p.nvs.window with
  | none => refuse .badValue p
  | some w =>
    judged [(w.writeEnabled, .locked), (w.region != .unused, .badValue),
        (!w.region.protectedFromWindow, .notPermitted), (!isActiveBank p.nvs w.region, .bankActive),
        (!(w.region.isBank && p.nvs.switchInFlight), .busy),
        (w.region != .identity || windowCell p.nvs w == Memory.erased, .notPermitted), (storeAccepts 1 p, .busy)]
      (fun p =>
        let w' := if w.mode = .noStep then w else w.step
        accept (queueJob ⟨.cells (w.region.first + w.index) [value], .normal, .service, none⟩
          (p.withNvs { p.nvs with window := some w' }))) p

/-- R170: whether a job holds a cell of a calibration bank. -/
def WriteJob.holdsBank (j : WriteJob) : Bool :=
  match j.data with
  | .odometer _ => false
  | .cells first ws => decide (first < 416) && decide (96 < first + ws.length)

/-- R170: the bank a code names. -/
def bankOf : Nat → Option Bank
  | 0 => some .a
  | 1 => some .b
  | _ => none

/-- R170: the selector job that names a bank. -/
def selectorJob (bank : Bank) : WriteJob :=
  ⟨.cells selectorCell [bank.selector, checkWord [bank.selector]], .urgent, .service, none⟩

/-- BANK_SWITCH (R170). -/
def takeBankSwitch (code : Byte) (p : Panel) : Answer :=
  match bankOf code.toNat with
  | none => refuse .badValue p
  | some bank =>
    judged [(p.nvs.unlockLatch, .locked), (p.nvs.activeBank != some bank, .bankActive),
        (!p.nvs.switchInFlight && !(p.nvs.inOrder.any WriteJob.holdsBank), .busy), (storeAccepts 1 p, .busy),
        (bankValid p.nvs.cells bank, .bankInvalid)]
      (fun p => accept (queueJob (selectorJob bank)
        (p.withNvs { p.nvs with unlockLatch := false, switchInFlight := true }))) p

/-- R165: the lock job. -/
def lockJob : WriteJob := ⟨.cells lockCell [lockCode], .urgent, .service, none⟩

/-- R165: an accepted ODOMETER_SET: the latch consumed, the value handed to the accumulator, the odometer lock
set, and the odometer and lock jobs queued. The service evaluation of R28 comes before the fall of the fault
indication as ODO_LOST is cleared, an order that R28 leaves open (DESIGN CHOICE, assumption 52). -/
def setOdometer (value : Nat) (p : Panel) : Panel :=
  let p := judgeFaultIndication (takeOdometer value (consumeLatch p))
  let p := p.withNvs { p.nvs with odometerLock := true }
  queueJob lockJob (queueJob ⟨.odometer value, .urgent, .service, none⟩ p)

/-- ODOMETER_SET (R165, R28). -/
def takeOdometerSet (value : BitVec 24) (p : Panel) : Answer :=
  judged [(p.nvs.unlockLatch, .locked), (!p.nvs.odometerLock, .locked), (p.pcu.stationary, .moving),
      (decide (p.dfa.odometer ≤ value.toNat) && decide (value.toNat ≤ odometerMax), .badValue),
      (storeAccepts 2 p, .busy)]
    (fun p => accept (setOdometer value.toNat p)) p

/-! ### Permission and dispatch (R187) -/

/-- R187: whether a link may send a request. -/
def permitted (l : Link) : Request → Bool
  | .call => l != .service
  | .overspeedSet _ => l == .front
  | .rearQuietSet _ => l == .rear
  | .clockSet _ => l != .service
  | .serviceReset _ | .checkStart => l != .rear
  | .serviceWrite _ _ | .storeOpen | .storeStatus | .windowSelect _ _ _ | .windowRead | .windowWrite _
  | .bankSwitch _ | .odometerSet _ | .restart => l == .service
  | .presence | .noticesRead | .noticeMaskSet _ | .inputsRead | .errorsRead | .identityRead | .valuesRead
  | .odometerRead | .tripRead _ | .warningsRead | .clockRead | .serviceRead | .checkRead | .tripReset _
  | .tripHold _ | .tripResume _ | .tripSetDestination _ | .warningAck _ => true

/-- A permitted request handed to the block that owns it (R178). -/
def carryOut (l : Link) (r : Request) (p : Panel) : Answer :=
  match r with
  | .presence => takePresence l p
  | .noticesRead => takeNoticesRead l p
  | .noticeMaskSet mask => takeNoticeMaskSet l mask p
  | .inputsRead => takeInputsRead l p
  | .errorsRead => takeErrorsRead l p
  | .identityRead => takeIdentityRead p
  | .valuesRead => takeValuesRead p
  | .odometerRead => takeOdometerRead p
  | .tripRead index => takeTripRead index p
  | .warningsRead => takeWarningsRead p
  | .clockRead => takeClockRead p
  | .serviceRead => takeServiceRead p
  | .checkRead => takeCheckRead p
  | .tripReset index => takeTripReset l index p
  | .tripHold index => takeTripState l index true p
  | .tripResume index => takeTripState l index false p
  | .tripSetDestination km => takeDestination l km p
  | .warningAck kind => takeWarningAck l kind p
  | .call => takeCall l p
  | .overspeedSet setpoint => takeOverspeedSet setpoint p
  | .rearQuietSet value => takeRearQuietSet value p
  | .clockSet time => takeClockSet l time p
  | .serviceReset slot => takeServiceReset l slot p
  | .checkStart => takeCheckStart l p
  | .serviceWrite slot item => takeServiceWrite l slot item p
  | .storeOpen => takeStoreOpen p
  | .storeStatus => takeStoreStatus p
  | .windowSelect region index mode => takeWindowSelect region index mode p
  | .windowRead => takeWindowRead p
  | .windowWrite value => takeWindowWrite value p
  | .bankSwitch bank => takeBankSwitch bank p
  | .odometerSet value => takeOdometerSet value p
  | .restart => takeRestart p

/-- R178, R187: a good message's request judged by the table of permissions and, if it passes, handed to its
block. -/
def answerRequest (l : Link) (r : Request) (p : Panel) : Answer :=
  if permitted l r then carryOut l r p else refuse .notPermitted p

end Sys2Proof.Machine
end

