-- ==== Sys2Proof/Machine/Links.lean ====
section
/-! DEFINITION. The taking rule of a link port (R178, R179), presence changes (R182, R183), and the
commands that hand a request to the taking rule. -/

namespace Sys2Proof.Machine

open Sys2Proof

/-! ### Replies (R178, R179) -/

/-- R178: the port begins its reply: its first character is on the line. -/
def startReply (l : Link) (status : Status) (data : List Byte) (p : Panel) : Panel :=
  p.withPort l { p.lnk.ports.get l with reply := some ⟨replyChars status data, 1, Timer.start characterTime⟩ }

/-- R178: a message taken: its reply is formed, and for a good message the request is judged and carried
out, at this moment. -/
def takeMessage (l : Link) (m : Message) (p : Panel) : Panel :=
  match m with
  | .bad => startReply l .badMessage [] p
  | .unknown => startReply l .unknown [] p
  | .good r =>
    let a := answerRequest l r p
    startReply l a.status a.data a.panel

/-- R178, R181: a count of events, at most 255. -/
def countEvent (n : Nat) : Nat := clampAt 255 (n + 1)

/-- R178, R180: a complete, judged message: taken at once when the port has no reply and no waiting message
and recovery is done, waiting when no message waits, and dropped as an overrun otherwise. -/
def deliverMessage (l : Link) (m : Message) (p : Panel) : Panel :=
  let port := p.lnk.ports.get l
  match port.waiting with
  | some _ => p.withPort l { port with overruns := countEvent port.overruns }
  | none =>
    if port.reply.isNone && p.nvs.recoveryDone then takeMessage l m p
    else p.withPort l { port with waiting := some m }

/-- R178, R180: a port without a reply takes its waiting message, if it has one. -/
def takeWaiting (l : Link) (p : Panel) : Panel :=
  let port := p.lnk.ports.get l
  match port.waiting with
  | some m => takeMessage l m (p.withPort l { port with waiting := none })
  | none => p

/-! ### Presence (R182, R183) -/

/-- R183: what a link's going ABSENT delivers to the store: for SERVICE the latch, the write permission and
the window selection are cleared (R164). -/
def Nvs.linkAbsent (l : Link) (n : Nvs) : Nvs :=
  match l with
  | .service => { n with unlockLatch := false, window := none }
  | _ => n

/-- R183: a change of presence delivered: notice LINKS to the other links, the store for SERVICE, and
LINK_LOST judged. -/
def presenceChanged (l : Link) (p : Panel) : Panel :=
  let p := notifyOthers .links l p
  judgeWarnings (if (p.lnk.ports.get l).present then p else p.withNvs (p.nvs.linkAbsent l))

/-- R182: the completion of a good message: the presence timer restarts, and an ABSENT link becomes PRESENT. -/
def goodMessage (l : Link) (p : Panel) : Panel :=
  let port := p.lnk.ports.get l
  let q := p.withPort l { port with present := true, presenceTimer := Timer.start presenceTime }
  if port.present then q else presenceChanged l q

/-- R182: the presence timer's expiry; the timer runs only while the link is PRESENT. -/
def presenceExpiry (l : Link) (p : Panel) : Panel :=
  let port := p.lnk.ports.get l
  if port.presenceTimer.isSome then
    presenceChanged l (p.withPort l { port with present := false, presenceTimer := none })
  else p

/-! ### The request commands

Each hands a good message with its request to the taking rule of its link (assumption 7). -/

/-- A request handed to the taking rule of its link (R178). -/
def submit (l : Link) (r : Request) (s : State) : Host.Outcome State Fault Refusal :=
  s.act (deliverMessage l (.good r))

/-- PRESENCE (R186). -/
def execPresence (l : Link) (s : State) : Host.Outcome State Fault Refusal := submit l .presence s
/-- NOTICES_READ (R185). -/
def execNoticesRead (l : Link) (s : State) : Host.Outcome State Fault Refusal := submit l .noticesRead s
/-- NOTICE_MASK_SET (R185). -/
def execNoticeMaskSet (l : Link) (mask : BitVec 16) (s : State) : Host.Outcome State Fault Refusal :=
  submit l (.noticeMaskSet mask) s
/-- INPUTS_READ (R16). -/
def execInputsRead (l : Link) (s : State) : Host.Outcome State Fault Refusal := submit l .inputsRead s
/-- ERRORS_READ (R181). -/
def execErrorsRead (l : Link) (s : State) : Host.Outcome State Fault Refusal := submit l .errorsRead s
/-- IDENTITY_READ (R167). -/
def execIdentityRead (l : Link) (s : State) : Host.Outcome State Fault Refusal := submit l .identityRead s
/-- VALUES_READ (R188). -/
def execValuesRead (l : Link) (s : State) : Host.Outcome State Fault Refusal := submit l .valuesRead s
/-- ODOMETER_READ (R31). -/
def execOdometerRead (l : Link) (s : State) : Host.Outcome State Fault Refusal := submit l .odometerRead s
/-- TRIP_READ (R68). -/
def execTripRead (l : Link) (index : Byte) (s : State) : Host.Outcome State Fault Refusal :=
  submit l (.tripRead index) s
/-- WARNINGS_READ (R117). -/
def execWarningsRead (l : Link) (s : State) : Host.Outcome State Fault Refusal := submit l .warningsRead s
/-- CLOCK_READ (R138). -/
def execClockRead (l : Link) (s : State) : Host.Outcome State Fault Refusal := submit l .clockRead s
/-- SERVICE_READ (R131). -/
def execServiceRead (l : Link) (s : State) : Host.Outcome State Fault Refusal := submit l .serviceRead s
/-- CHECK_READ (R151). -/
def execCheckRead (l : Link) (s : State) : Host.Outcome State Fault Refusal := submit l .checkRead s
/-- TRIP_RESET (R52, R53). -/
def execTripReset (l : Link) (index : Byte) (s : State) : Host.Outcome State Fault Refusal :=
  submit l (.tripReset index) s
/-- TRIP_HOLD (R52, R54). -/
def execTripHold (l : Link) (index : Byte) (s : State) : Host.Outcome State Fault Refusal :=
  submit l (.tripHold index) s
/-- TRIP_RESUME (R52, R54). -/
def execTripResume (l : Link) (index : Byte) (s : State) : Host.Outcome State Fault Refusal :=
  submit l (.tripResume index) s
/-- TRIP_SET_DESTINATION (R57). -/
def execTripSetDestination (l : Link) (km : BitVec 16) (s : State) : Host.Outcome State Fault Refusal :=
  submit l (.tripSetDestination km) s
/-- WARNING_ACK (R105, R106). -/
def execWarningAck (l : Link) (kind : Byte) (s : State) : Host.Outcome State Fault Refusal :=
  submit l (.warningAck kind) s
/-- CALL (R99). -/
def execCall (l : Link) (s : State) : Host.Outcome State Fault Refusal := submit l .call s
/-- OVERSPEED_SET (R98). -/
def execOverspeedSet (l : Link) (setpoint : BitVec 16) (s : State) : Host.Outcome State Fault Refusal :=
  submit l (.overspeedSet setpoint) s
/-- REAR_QUIET_SET (R104). -/
def execRearQuietSet (l : Link) (value : Byte) (s : State) : Host.Outcome State Fault Refusal :=
  submit l (.rearQuietSet value) s
/-- CLOCK_SET (R134). -/
def execClockSet (l : Link) (time : BitVec 24) (s : State) : Host.Outcome State Fault Refusal :=
  submit l (.clockSet time) s
/-- SERVICE_RESET (R125 to R127). -/
def execServiceReset (l : Link) (slot : Byte) (s : State) : Host.Outcome State Fault Refusal :=
  submit l (.serviceReset slot) s
/-- CHECK_START (R141). -/
def execCheckStart (l : Link) (s : State) : Host.Outcome State Fault Refusal := submit l .checkStart s
/-- SERVICE_WRITE (R129, R130). -/
def execServiceWrite (l : Link) (slot : Byte) (item : ItemParams) (s : State) : Host.Outcome State Fault Refusal :=
  submit l (.serviceWrite slot item) s
/-- STORE_OPEN (R164). -/
def execStoreOpen (l : Link) (s : State) : Host.Outcome State Fault Refusal := submit l .storeOpen s
/-- STORE_STATUS (R172). -/
def execStoreStatus (l : Link) (s : State) : Host.Outcome State Fault Refusal := submit l .storeStatus s
/-- WINDOW_SELECT (R166). -/
def execWindowSelect (l : Link) (region index mode : Byte) (s : State) : Host.Outcome State Fault Refusal :=
  submit l (.windowSelect region index mode) s
/-- WINDOW_READ (R167). -/
def execWindowRead (l : Link) (s : State) : Host.Outcome State Fault Refusal := submit l .windowRead s
/-- WINDOW_WRITE (R168). -/
def execWindowWrite (l : Link) (value : StoreWord) (s : State) : Host.Outcome State Fault Refusal :=
  submit l (.windowWrite value) s
/-- BANK_SWITCH (R170). -/
def execBankSwitch (l : Link) (bank : Byte) (s : State) : Host.Outcome State Fault Refusal :=
  submit l (.bankSwitch bank) s
/-- ODOMETER_SET (R165). -/
def execOdometerSet (l : Link) (value : BitVec 24) (s : State) : Host.Outcome State Fault Refusal :=
  submit l (.odometerSet value) s
/-- RESTART (R180, R197). -/
def execRestart (l : Link) (s : State) : Host.Outcome State Fault Refusal := submit l .restart s

end Sys2Proof.Machine
end

