-- ==== Sys2Proof/Machine/Recovery.lean ====
section
/-! DEFINITION. What recovery reads from the store's cells (R153, R156, R157, R199, R200, R119, R137), and
the recovery of a power-on reset and of a restart (R156, R158). -/

namespace Sys2Proof.Machine

open Sys2Proof

/-! ### Reading the records -/

/-- R153: whether the format code matches this part's. -/
def formatMatches (cells : List (Nat × StoreWord)) : Bool := Memory.read cells formatCell == formatCode

/-- R199: the value of a ring record's four bytes. -/
def ringValue (lo hi : StoreWord) : Nat := lo.toNat + 65536 * (hi.toNat % 256)

/-- R199, R153: a ring slot's odometer value, when its record is good. -/
def ringSlotValue (cells : List (Nat × StoreWord)) (slot : Nat) : Option Nat :=
  let lo := Memory.read cells (2 * slot)
  let hi := Memory.read cells (2 * slot + 1)
  if byteSum [lo, hi] % 256 = 0xFF ∧ ringValue lo hi ≤ odometerMax then some (ringValue lo hi) else none

/-- R156: the better of the best record so far and a slot's: the larger value, and the slot seen first of
those that hold it. -/
def betterSlot (cells : List (Nat × StoreWord)) (best : Option (Nat × Nat)) (slot : Nat) : Option (Nat × Nat) :=
  match ringSlotValue cells slot, best with
  | none, _ => best
  | some v, none => some (v, slot)
  | some v, some (w, t) => if w < v then some (v, slot) else some (w, t)

/-- R156: the largest value among the good ring records, and the lowest-numbered slot that holds it. -/
def recoverRing (formatGood : Bool) (cells : List (Nat × StoreWord)) : Option (Nat × Nat) :=
  if formatGood then (List.range 16).foldl (betterSlot cells) none else none

/-- R156, R199: the day count of the DAY region, when its record is good. -/
def recoverDay (formatGood : Bool) (cells : List (Nat × StoreWord)) : Option Nat :=
  if formatGood && checkGood (readRun cells 32 2) then some (Memory.read cells 32).toNat else none

/-- R199: a service item's fields as its cells hold them: LastKm modulo 65,536 and LastDay modulo 1,024. -/
def rawItem (formatGood : Bool) (cells : List (Nat × StoreWord)) (i : SlotId) : Option ServiceItem :=
  let words := readRun cells i.firstCell 4
  let w (k : Nat) : Nat := (words.getD k 0).toNat
  let flags := (byteSum words % 256 + 256 - 0x5A) % 256
  if formatGood && decide (flags < 4) then
    some ⟨flags % 2 == 1, w 2 / 1024 % 16, w 0, w 2 % 1024, w 1, w 2 / 16384 + 4 * (w 3 % 256), flags / 2 == 1,
      .inactive⟩
  else none

/-- R137: the day count recovered when DAY is bad: the largest LastDay of the good items, as the cells hold
it. -/
def fallbackDay (formatGood : Bool) (cells : List (Nat × StoreWord)) : Nat :=
  (allSlots.map (fun i => ((rawItem formatGood cells i).map ServiceItem.lastDay).getD 0)).foldl max 0

/-- R199: the largest value not above a count whose remainder is the stored one; the stored value itself
when there is none. -/
def decodeRemainder (modulus stored count : Nat) : Nat :=
  if stored ≤ count then stored + (count - stored) / modulus * modulus else stored

/-- R119, R199: an item recovered against OdoKm and DayCount, and whether a bad check or a clamp changed
it. -/
def recoverItem (raw : Option ServiceItem) (km day : Nat) : ServiceItem × Bool :=
  match raw with
  | none => (ServiceItem.reset, true)
  | some it =>
    let lastKm := decodeRemainder 65536 it.lastKm km
    let lastDay := decodeRemainder 1024 it.lastDay day
    ({ it with
        intervalKm := clampAt 65000 it.intervalKm
        intervalDays := clampAt 1000 it.intervalDays
        lastKm := clampAt km lastKm
        lastDay := clampAt day lastDay },
      decide (65000 < it.intervalKm) || decide (1000 < it.intervalDays) || decide (km < lastKm) ||
        decide (day < lastDay))

/-- R156: the bank the selector names, bank A when the selector is bad. -/
def firstBank (formatGood : Bool) (cells : List (Nat × StoreWord)) : Bank :=
  if formatGood then (selectorBank cells).getD .a else .a

/-- R157: the bank the working calibration is taken from; none for the ROM defaults. -/
def recoverBank (formatGood : Bool) (cells : List (Nat × StoreWord)) : Option Bank :=
  let first := firstBank formatGood cells
  if !formatGood then none
  else if bankValid cells first then some first
  else if bankValid cells first.other then some first.other
  else none

/-- The calibration of a bank's cells, or the ROM defaults (R157). -/
def calibrationOf (cells : List (Nat × StoreWord)) : Option Bank → Calibration
  | some bank => decodeBank (bankWords cells bank)
  | none => romDefaults

/-- R199: a 24-bit count of the snapshot: its low cell, and the low byte of its high cell. -/
def snapshotCount (words : List StoreWord) (o : Nat) : Nat :=
  ringValue (words.getD o 0) (words.getD (o + 1) 0)

/-- R45, R199: a trip record of the snapshot, its counts clamped to their maxima. -/
def snapshotTrip (words : List StoreWord) (i : TripId) : TripRecord :=
  let o := 1 + 7 * i.idx
  ⟨⟨clampAt countMax (snapshotCount words o), clampAt countMax (snapshotCount words (o + 2)),
    clampAt runTimeMax (snapshotCount words (o + 4))⟩, i != .tank && words.getD (o + 6) 0 != 0, none⟩

/-- R199: the snapshot's E; 0xFFFF stands for absent. -/
def snapshotEstimate (words : List StoreWord) : Option Nat :=
  if words.getD 0 0 = 0xFFFF then none else some (words.getD 0 0).toNat

/-- R156, R45, R35: E and the trip records of a good snapshot; E absent and the records reset when it is bad. -/
def recoverSnapshot (formatGood : Bool) (cells : List (Nat × StoreWord)) : Option Nat × PerTrip TripRecord :=
  let words := readRun cells 34 30
  if formatGood && checkGood words then (snapshotEstimate words, PerTrip.of (snapshotTrip words))
  else (none, Trc.reset.trips)

/-! ### The regions recovered (R156) -/

/-- R156: the parts of the store that both resets recover: the format code, the ring pointer, the odometer
lock, the active bank, the working calibration and CAL_FAULT. -/
def Nvs.recover (n : Nvs) : Nvs :=
  let formatGood := formatMatches n.cells
  let bank := recoverBank formatGood n.cells
  { n with
    formatGood := formatGood
    ringPointer := ((recoverRing formatGood n.cells).map Prod.snd).getD 15
    odometerLock := formatGood && Memory.read n.cells lockCell == lockCode
    activeBank := bank
    calibration := calibrationOf n.cells bank
    calFault := bank.isNone }

/-- R119, R120: the service table recovered against OdoKm and DayCount as they stand. -/
def recoveredItem (p : Panel) (i : SlotId) : ServiceItem × Bool :=
  recoverItem (rawItem p.nvs.formatGood p.nvs.cells i) (odoKm p) p.svm.dayCount

/-- R119: the service jobs of the items that a bad check or a clamp changed, in slot order. -/
def queueItemJobs (p : Panel) : Panel :=
  allSlots.foldl
    (fun q i => if (recoveredItem p i).2 then queueInternal (itemJobData i (recoveredItem p i).1) q else q) p

/-- R156: the internal jobs of a recovery: the format job, the day job when `dayLost`, the service jobs. -/
def queueRecoveryJobs (dayLost : Bool) (p : Panel) : Panel :=
  let q := if p.nvs.formatGood then p else queueInternal (.cells formatCell [formatCode]) p
  let q := if dayLost then queueInternal (.cells 32 (dayWords q.svm.dayCount)) q else q
  queueItemJobs q

/-- R156, R196: the end of a recovery: E is clamped, the table is recovered and first evaluated, the fault
indication is first formed, the internal jobs are queued, recovery done is delivered, and the range is first
computed. The ports then take their waiting messages (R180), and the Power Mode Controller may leave STARTUP
(R191). -/
def finishRecovery (dayLost : Bool) (p : Panel) : Panel :=
  let p := takeGaugeCalibration (p.withDfa (p.dfa.clampEstimate p.nvs.calibration.tankCapacity))
  let p := evaluateFirst (p.withSvm { p.svm with items := PerSlot.of (fun i => (recoveredItem p i).1) })
  let p := queueRecoveryJobs dayLost (formFaultIndication p)
  let p := rangeInputsChanged (p.withNvs { p.nvs with recoveryDone := true })
  leaveStartup (takeWaiting .service (takeWaiting .rear (takeWaiting .front p)))

/-- R156: the recovery of a power-on reset. -/
def recoverPowerOn (p : Panel) : Panel :=
  let formatGood := formatMatches p.nvs.cells
  let ring := recoverRing formatGood p.nvs.cells
  let day := recoverDay formatGood p.nvs.cells
  let snapshot := recoverSnapshot formatGood p.nvs.cells
  let p := p.withNvs p.nvs.recover
  let p := p.withDfa { p.dfa with
    odometer := (ring.map Prod.fst).getD 0, odoLost := ring.isNone, estimate := snapshot.1 }
  let p := p.withSvm { p.svm with dayCount := day.getD (fallbackDay formatGood p.nvs.cells) }
  let p := p.withTrc { p.trc with trips := snapshot.2 }
  finishRecovery day.isNone p

/-- R23, R32, R30: the remainders when a restart's recovery reloads the calibration: a remainder whose constant
changes becomes 0, as at a bank switch (R43), so that it stays below its constant (assumption 38). -/
def Dfa.reload (old new : Calibration) (d : Dfa) : Dfa :=
  { d with
    rd := if new.pulsesPerKm = old.pulsesPerKm then d.rd else 0
    rf := if new.injectorUsPerMl = old.injectorUsPerMl then d.rf else 0 }

/-- R158: the recovery of a restart, once its queue has been emptied: the odometer, DayCount, E and the trips
are kept, and so are the remainders gathered since the restart began, unless their constant changes. -/
def recoverRestart (p : Panel) : Panel :=
  let q := p.withNvs { p.nvs with queue := [], switchInFlight := false, draining := false }.recover
  finishRecovery false (q.withDfa (p.dfa.reload p.nvs.calibration q.nvs.calibration))

end Sys2Proof.Machine
end

