-- ==== Sys2Proof/Machine/StoreWork.lean ====
section
/-! DEFINITION. The programming of cells and the completion of jobs (R154, R155, R159, R171), the one-second
event (R132), and the resets and the loss of keep-alive (R152, R158, R196, R197). -/

namespace Sys2Proof.Machine

open Sys2Proof

/-! ### The completion of a job -/

/-- R171: the completed selector job: its bank becomes active and supplies the working calibration, which the
blocks take as R43, R116, R65, R123 and R150 state, in the order of R171's table (assumption 15), so that LOW_FUEL is
judged on the range held before the new one is delivered; notice STORE goes to SERVICE. -/
def completeBankSwitch (bank : Bank) (p : Panel) : Panel :=
  let cal := calibrationOf p.nvs.cells (some bank)
  let p := p.withNvs { p.nvs with activeBank := some bank, calibration := cal, calFault := false, switchInFlight := false }
  let p := takeCalibrationWarnings (p.withDfa (p.dfa.takeCalibration cal))
  let p := judgeFaultIndication (evaluate (rangeInputsChanged p))
  notifyLink .store .service p

/-- R155: whether the queue holds a snapshot job, which is the one whose cells begin SNAPSHOT. -/
def JobData.isSnapshot : JobData → Bool
  | .odometer _ => false
  | .cells first _ => first == 34

/-- R154, R155, R171: what the completion of a job does, once the job has left the queue. -/
def completeJob (data : JobData) (p : Panel) : Panel :=
  match data with
  | .odometer _ => p.withNvs { p.nvs with ringPointer := p.nvs.nextSlot }
  | .cells first words =>
    if first = 34 then
      (if p.nvs.queue.any (fun j => j.data.isSnapshot) then p else takeSnapshotWritten p)
    else if first = selectorCell then
      match selectorOf (words.getD 0 0) with
      | some bank => completeBankSwitch bank p
      | none => p
    else p

/-- R159, R158: what follows a job's completion: the next job begins; while a restart drains the queue, only
a suspended job resumes, and with none left the queue is emptied and the store recovers. -/
def afterJob (p : Panel) : Panel :=
  if p.nvs.draining && !(p.nvs.queue.any (fun j => j.progress.isSome)) then recoverRestart p
  else p.withNvs p.nvs.beginNext

/-! ### A cell programmed (R159) -/

/-- R159: whether a job in flight gives way at the end of its cell: a NORMAL job to an URGENT one, but not
while a restart drains the queue (R158). -/
def Nvs.givesWay (n : Nvs) (j : WriteJob) : Bool :=
  !n.draining && j.jobClass == .normal && n.queue.any (fun q => q.jobClass == .urgent)

/-- R159: the queue with a suspended job at the head of its NORMAL jobs. -/
def suspend (j : WriteJob) (queue : List WriteJob) : List WriteJob :=
  queue.filter (fun q => q.jobClass == .urgent) ++ j :: queue.filter (fun q => q.jobClass == .normal)

/-- The cell a job in flight programs. -/
def Nvs.currentCell (n : Nvs) (j : WriteJob) : Nat := j.progress.getD (n.firstCell j.data)

/-- The word a job in flight programs. -/
def Nvs.currentWord (n : Nvs) (j : WriteJob) : StoreWord :=
  j.data.words.getD (n.currentCell j - n.firstCell j.data) Memory.erased

/-- R159: whether the cell being programmed is the job's last. -/
def Nvs.lastCell (n : Nvs) (j : WriteJob) : Bool :=
  decide (n.firstCell j.data + j.data.words.length ≤ n.currentCell j + 1)

/-- R159: the store when a job goes on to its next cell, or is suspended there and an URGENT job begins. -/
def Nvs.nextCell (j : WriteJob) (n : Nvs) : Nvs :=
  let j' : WriteJob := { j with progress := some (n.currentCell j + 1) }
  if n.givesWay j then { n with queue := suspend j' n.queue, inFlight := none, cellTimer := none }.beginNext
  else { n with inFlight := some j', cellTimer := Timer.start cellTime }

/-- R159: a cell's programming ends. -/
def cellProgrammed (p : Panel) : Panel :=
  match p.nvs.inFlight with
  | none => p
  | some j =>
    let n := { p.nvs with cells := Memory.write (p.nvs.currentCell j) (p.nvs.currentWord j) p.nvs.cells }
    if n.lastCell j then afterJob (completeJob j.data (p.withNvs { n with inFlight := none, cellTimer := none }))
    else p.withNvs (n.nextCell j)

/-! ### The one-second event (R132) -/

/-- R132: the one-second event: the clock, the Trip Computer in RUN, and the day timer, in that order, so that an entry
raised by the day's evaluation is RaisedAt the second that begins (assumption 48). -/
def oneSecondEvent (p : Panel) : Panel :=
  let p := p.withSvm { p.svm.tickClock with secondDivider := Timer.start oneSecond }
  let p := if p.pmc.mode = .run then p.withTrc p.trc.second else p
  tickDay p

/-! ### Resets -/

/-- R152, R196: keep-alive is lost: the cell being programmed holds an unknown value, and the part stops. -/
def keepAliveLost (p : Panel) : Panel :=
  let n :=
    match p.nvs.inFlight with
    | none => p.nvs
    | some j =>
      { p.nvs with
        cells := Memory.write (p.nvs.currentCell j) (Config.unknownCell p.nvs.unknownCount) p.nvs.cells
        unknownCount := p.nvs.unknownCount + 1 }
  { p.withNvs n with powered := false }

/-- R196: every block at its power-on reset values, with the straps sampled; the cells and the levels on the
pins stand. -/
def powerOnValues (strapUnits strapRear : Bool) (p : Panel) : Panel where
  powered := true
  pcu := Pcu.reset
  sws := Sws.reset p.sws.pins
  adc := Adc.reset p.adc.analog
  dfa := Dfa.reset
  trc := Trc.reset
  gdr := Gdr.reset
  wrc := Wrc.reset
  svm := Svm.reset
  chk := Chk.reset
  nvs := Nvs.reset p.nvs.cells p.nvs.unknownCount
  lnk := Lnk.reset
  pmc := Pmc.reset strapUnits strapRear

/-- R196: a power-on reset. One that finds the part still kept alive stands for a loss and a return. -/
def powerOnReset (strapUnits strapRear : Bool) (p : Panel) : Panel :=
  recoverPowerOn (powerOnValues strapUnits strapRear (if p.powered then keepAliveLost p else p))

/-- R158: the store at a restart's beginning: the latch CLEAR, no selection, and the queue to be drained.
What recovery supplies stands until it does. -/
def Nvs.restart (n : Nvs) : Nvs :=
  { n with unlockLatch := false, window := none, draining := true, recoveryDone := false }

/-- R197, R30, R35: the distance and fuel state after a restart. -/
def Dfa.restart (d : Dfa) : Dfa := { d with rd := 0, rf := 0, fuelSubCount := 0, fuelSampleTimer := none }

/-- R197, R45, R58, R65: the Trip Computer after a restart: the records and the destination are kept. -/
def Trc.restart (t : Trc) : Trc := { t.clearWindow with lastRange := none }

/-- R197, R132: the Service Monitor after a restart: the clock and the day count are kept. -/
def Svm.restart (v : Svm) : Svm := { v with secondDivider := Timer.start oneSecond }

/-- R197: every block at its values after a restart, with the straps sampled. -/
def restartValues (strapUnits strapRear : Bool) (p : Panel) : Panel where
  powered := p.powered
  pcu := Pcu.reset
  sws := Sws.reset p.sws.pins
  adc := Adc.reset p.adc.analog
  dfa := p.dfa.restart
  trc := p.trc.restart
  gdr := Gdr.reset
  wrc := Wrc.reset
  svm := p.svm.restart
  chk := Chk.reset
  nvs := p.nvs.restart
  lnk := p.lnk.restart
  pmc := Pmc.reset strapUnits strapRear

/-- R158: whether the store has a job in flight, or one begun and suspended, to let complete. -/
def Nvs.mustDrain (n : Nvs) : Bool := n.inFlight.isSome || n.queue.any (fun j => j.progress.isSome)

/-- R197, R180: a restart begins; the store recovers at once when it has no job to let complete. -/
def beginRestart (strapUnits strapRear : Bool) (p : Panel) : Panel :=
  let p := restartValues strapUnits strapRear p
  if p.nvs.mustDrain then p else recoverRestart p

/-- RESTART_BEGIN (R197): only a RESTART's reply in transmission on SERVICE ends in a restart. -/
def restartBegin (strapUnits strapRear : Bool) (p : Panel) : Panel :=
  if p.lnk.restartArmed then beginRestart strapUnits strapRear p else p

/-- ONE_SECOND_EVENT (R132, R133, R136, R49). -/
def execOneSecondEvent (s : State) : Host.Outcome State Fault Refusal := s.act oneSecondEvent
/-- CELL_PROGRAMMED (R159). -/
def execCellProgrammed (s : State) : Host.Outcome State Fault Refusal := s.act cellProgrammed
/-- POWER_ON_RESET (R196): the one command the part takes without keep-alive. -/
def execPowerOnReset (strapUnits strapRear : Bool) (s : State) : Host.Outcome State Fault Refusal :=
  .next { s with toPanel := powerOnReset strapUnits strapRear s.toPanel }
/-- RESTART_BEGIN (R197). -/
def execRestartBegin (strapUnits strapRear : Bool) (s : State) : Host.Outcome State Fault Refusal :=
  s.act (restartBegin strapUnits strapRear)
/-- KEEP_ALIVE_LOST (R152, R159, R196). -/
def execKeepAliveLost (s : State) : Host.Outcome State Fault Refusal := s.act keepAliveLost

end Sys2Proof.Machine
end

