-- ==== Sys2Proof/Machine/LinkEvents.lean ====
section
/-! DEFINITION. What happens on a link's wires: received characters and the framing of messages (R174 to
R177), the gap and presence timers (R176, R182), and the end of a reply (R178, R180). -/

namespace Sys2Proof.Machine

open Sys2Proof

/-! ### Framing (R175 to R177) -/

/-- R175: the port without a message in progress. -/
def LinkPort.idle (port : LinkPort) : LinkPort :=
  { port with receiveState := .idle, received := [], checkSum := 0, spoiled := false, gapTimer := none }

/-- R175: a mark character begins a message, unknown when its code names no request. -/
def LinkPort.begin (data : Byte) (port : LinkPort) : LinkPort :=
  { port with
    receiveState := if (paramCount data.toNat).isSome then .inMessage else .inUnknown
    received := [data]
    checkSum := data
    spoiled := false
    gapTimer := Timer.start gapTime }

/-- R175, R177: a character joins the message in progress; at most 16 characters are held. -/
def LinkPort.hold (c : RxChar) (port : LinkPort) : LinkPort :=
  { port with
    received := if port.received.length < 16 then port.received ++ [c.data] else port.received
    checkSum := port.checkSum + c.data
    spoiled := port.spoiled || c.errored
    gapTimer := Timer.start gapTime }

/-- R175: whether a message of a known code holds the characters its code requires. -/
def LinkPort.full (port : LinkPort) : Bool :=
  match port.received with
  | [] => false
  | code :: _ =>
    match paramCount code.toNat with
    | some k => decide (k + 2 ≤ port.received.length)
    | none => false

/-- R175, R177: a message is bad when it is spoiled or its characters do not sum to 0. -/
def LinkPort.sumsBad (port : LinkPort) : Bool := port.spoiled || port.checkSum != 0

/-- R175: the request of a complete message, its check character left out. -/
def LinkPort.request (port : LinkPort) : Option Request :=
  match port.received with
  | [] => none
  | code :: rest => requestOf code.toNat rest.dropLast

/-- R181: a message answered BAD_MESSAGE, or abandoned. -/
def LinkPort.discard (port : LinkPort) : LinkPort :=
  { port with discardedMessages := countEvent port.discardedMessages }

/-- R175, R177, R182: a complete message judged: a bad one is counted, a good one restarts presence, and
either is delivered to the taking rule. An unknown message carries no request. A bad message counts here, at its
judgement, whether it is then answered, waits or is dropped as an overrun (assumption 44). -/
def completeMessage (l : Link) (p : Panel) : Panel :=
  let port := p.lnk.ports.get l
  if port.sumsBad then deliverMessage l .bad (p.withPort l port.idle.discard)
  else
    deliverMessage l (match port.request with | some r => .good r | none => .unknown)
      (goodMessage l (p.withPort l port.idle))

/-- R176, R177: the message in progress ends before it is complete: an unknown one is judged, and one of a
known code is discarded. -/
def endMessage (l : Link) (p : Panel) : Panel :=
  let port := p.lnk.ports.get l
  match port.receiveState with
  | .idle => p.withPort l port.idle
  | .inMessage => p.withPort l port.idle.discard
  | .inUnknown => completeMessage l p

/-- R175: a character that does not begin a message: it joins the one in progress, and a good one with none
in progress is counted (an errored one has been counted). -/
def dataCharacter (l : Link) (c : RxChar) (p : Panel) : Panel :=
  let port := p.lnk.ports.get l
  match port.receiveState with
  | .idle => if c.errored then p else p.withPort l { port with charErrors := countEvent port.charErrors }
  | .inUnknown => p.withPort l (port.hold c)
  | .inMessage =>
    let q := p.withPort l (port.hold c)
    if (port.hold c).full then completeMessage l q else q

/-- R175, R176: a good mark character ends the message in progress and begins its own. -/
def markCharacter (l : Link) (c : RxChar) (p : Panel) : Panel :=
  let q := endMessage l p
  q.withPort l ((q.lnk.ports.get l).begin c.data)

/-- R175: a received character framed. -/
def frameCharacter (l : Link) (c : RxChar) (p : Panel) : Panel :=
  if c.mark && !c.errored then markCharacter l c p else dataCharacter l c p

/-- R174: the receiver after a character: it looks for a start again once RX reads 1, and an errored character
is counted. -/
def LinkPort.receive (c : RxChar) (port : LinkPort) : LinkPort :=
  { port with
    looking := !c.framing
    charErrors := if c.errored then countEvent port.charErrors else port.charErrors }

/-- R174, R175: the eleven bits of a character received. A receiver that does not look for a start sees none,
and a start bit whose majority is 1 is a false start. -/
def characterReceived (l : Link) (samples : BitVec 33) (p : Panel) : Panel :=
  let port := p.lnk.ports.get l
  if port.looking && !majority samples 0 then
    frameCharacter l (rxChar samples) (p.withPort l (port.receive (rxChar samples)))
  else p

/-- R176, R177: the gap timer's expiry. -/
def gapTimerExpiry (l : Link) (p : Panel) : Panel :=
  if (p.lnk.ports.get l).gapTimer.isSome then endMessage l p else p

/-! ### The end of a reply (R178, R180) -/

/-- R178, R180: a reply's last character ends: the port takes its waiting message; the end of a RESTART's
reply begins the restart, with the straps at the levels the pins hold. -/
def replyEnd (l : Link) (p : Panel) : Panel :=
  let port := p.lnk.ports.get l
  if port.reply.isNone then p
  else if l = .service ∧ p.lnk.restartArmed then beginRestart p.pmc.strapUnits p.pmc.strapRear p
  else takeWaiting l (p.withPort l { port with reply := none })

/-- R174: RX reads 1 again: the receiver looks for the next start. -/
def rxIdle (l : Link) (p : Panel) : Panel := p.withPort l { p.lnk.ports.get l with looking := true }

/-- R174: a false start is dropped without a character and without an error, and the receiver looks for a
start again. One is noticed only while the receiver looks, so nothing changes. -/
def falseStart (_l : Link) (p : Panel) : Panel := p

/-- CHARACTER_RECEIVED (R174, R175). -/
def execCharacterReceived (l : Link) (samples : BitVec 33) (s : State) : Host.Outcome State Fault Refusal :=
  s.act (characterReceived l samples)
/-- GAP_TIMER_EXPIRY (R176, R177). -/
def execGapTimerExpiry (l : Link) (s : State) : Host.Outcome State Fault Refusal := s.act (gapTimerExpiry l)
/-- REPLY_END (R178, R180). -/
def execReplyEnd (l : Link) (s : State) : Host.Outcome State Fault Refusal := s.act (replyEnd l)
/-- PRESENCE_EXPIRY (R182, R183). -/
def execPresenceExpiry (l : Link) (s : State) : Host.Outcome State Fault Refusal := s.act (presenceExpiry l)
/-- FALSE_START (R174). -/
def execFalseStart (l : Link) (s : State) : Host.Outcome State Fault Refusal := s.act (falseStart l)
/-- RX_RETURNS_TO_IDLE_LEVEL (R174). -/
def execRxReturnsToIdleLevel (l : Link) (s : State) : Host.Outcome State Fault Refusal := s.act (rxIdle l)

end Sys2Proof.Machine
end

