-- ==== Sys2Proof/Machine/Pulse.lean ====
section
/-! DEFINITION. The Pulse Capture Unit: edges, gates, quiet expiries, engine running, stationary and the
injector pulse (R3 to R12). -/

namespace Sys2Proof.Machine

open Sys2Proof

/-- The part with its Pulse Capture Unit replaced. -/
def Panel.withPcu (u : Pcu) (p : Panel) : Panel := { p with pcu := u }

/-- A channel's records. -/
def Pcu.input (u : Pcu) : PulseChannel → PulseInput
  | .spd => u.spd
  | .eng => u.eng

/-- The unit with a channel's records replaced. -/
def Pcu.setInput (u : Pcu) (ch : PulseChannel) (i : PulseInput) : Pcu :=
  match ch with
  | .spd => { u with spd := i }
  | .eng => { u with eng := i }

/-! ### Edges (R3 to R5) -/

/-- R3: whether an edge at `now` is accepted. -/
def edgeAccepted (ch : PulseChannel) (now : Micros) (i : PulseInput) : Bool :=
  match i.edgeRecord with
  | none => true
  | some t => decide (minSpacing ch ≤ elapsed t now)

/-- R5: an accepted edge enters the gate record. -/
def GateRecord.addEdge (now : Micros) (g : GateRecord) : GateRecord :=
  if g.count = 0 then { g with count := 1, firstEdge := some now, lastEdge := some now }
  else { g with count := g.count + 1, lastEdge := some now }

/-- R3, R5: a channel's records after an accepted edge. -/
def PulseInput.accept (ch : PulseChannel) (now : Micros) (i : PulseInput) : PulseInput :=
  ⟨some now, i.gate.addEdge now, Timer.start (quietLimit ch)⟩

/-- R4, R11: an accepted SPD edge ends Stationary and restarts the stationary timer. -/
def Pcu.move (u : Pcu) : Pcu :=
  { u with
    stationary := false
    stationaryTime := 0
    stationaryTimer := Timer.start stationaryDelay
    stationarySecondsTimer := none }

/-- R3, R4: an edge on SPD or ENG; a rejected one changes nothing. -/
def pulseEdge (ch : PulseChannel) (p : Panel) : Panel :=
  let now := p.pcu.timebase
  if edgeAccepted ch now (p.pcu.input ch) then
    let u := p.pcu.setInput ch ((p.pcu.input ch).accept ch now)
    match ch with
    | .spd => speedPulse (p.withPcu u.move)
    | .eng => p.withPcu u
  else p

/-! ### Gates (R6, R8 to R10) -/

/-- R6: the period a gate determines, and PrevPeriod afterwards. -/
def gateResult (now : Micros) (g : GateRecord) : Option Nat × Option Nat :=
  match decide (2 ≤ g.count), g.firstEdge, g.lastEdge with
  | true, some first, some last =>
    let period := elapsed first last / (g.count - 1)
    (some period, some period)
  | _, _, _ =>
    match g.prevPeriod with
    | none => (none, none)
    | some prev =>
      (some (max prev (match g.lastEdge with
        | some last => elapsed last now
        | none => 0)), some prev)

/-- R6: a gate record cleared for the next gate, the last accepted edge carried over. -/
def clearedGate (edge : Option Micros) (prevPeriod : Option Nat) : GateRecord :=
  ⟨if edge.isSome then 1 else 0, edge, edge, prevPeriod⟩

/-- R6: a channel's records after a gate expiry. -/
def PulseInput.closeGate (now : Micros) (i : PulseInput) : PulseInput :=
  { i with gate := clearedGate i.edgeRecord (gateResult now i.gate).2 }

/-- R8: V from a speed period; 0 with none. -/
def speedOf (pulsesPerKm : Nat) : Option Nat → Nat
  | none => 0
  | some period => clampAt 3000 (roundDiv 36000000000 (period * pulsesPerKm))

/-- R9: N from an engine period; 0 with none. -/
def engineOf (pulsesPerRev : Nat) : Option Nat → Nat
  | none => 0
  | some period => clampAt 9000 (roundDiv 60000000 (period * pulsesPerRev))

/-- R10: EngineRunning judged on N. -/
def Pcu.judgeEngine (u : Pcu) : Pcu :=
  if 300 ≤ u.engineN then
    if u.engineRunning then u
    else { u with engineRunning := true, engineRunTime := 0, engineSecondsTimer := Timer.start oneSecond }
  else { u with engineRunning := false, engineRunTime := 0, engineSecondsTimer := none }

/-- R6, R8, R9, R10: the unit after a gate expiry under a working calibration. -/
def Pcu.closeGates (cal : Calibration) (u : Pcu) : Pcu :=
  Pcu.judgeEngine
    { u with
      gateTimer := Timer.start gatePeriod
      speedV := speedOf cal.pulsesPerKm (gateResult u.timebase u.spd.gate).1
      engineN := engineOf cal.tachPulsesPerRev (gateResult u.timebase u.eng.gate).1
      spd := u.spd.closeGate u.timebase
      eng := u.eng.closeGate u.timebase }

/-- R6: a gate expiry; V, N and EngineRunTime are delivered to the Warning Controller. -/
def gateExpiry (p : Panel) : Panel :=
  if p.pcu.gateTimer.isSome then judgeWarnings (p.withPcu (p.pcu.closeGates p.nvs.calibration)) else p

/-- R7: a channel's records after its quiet expiry. -/
def PulseInput.silent : PulseInput := ⟨none, ⟨0, none, none, none⟩, none⟩

/-- R7, R10: the unit after a quiet expiry. -/
def Pcu.goQuiet (ch : PulseChannel) (u : Pcu) : Pcu :=
  let u := u.setInput ch PulseInput.silent
  match ch with
  | .spd => { u with speedV := 0 }
  | .eng => Pcu.judgeEngine { u with engineN := 0 }

/-- R7: a quiet expiry. -/
def quietExpiry (ch : PulseChannel) (p : Panel) : Panel :=
  if (p.pcu.input ch).quietTimer.isSome then judgeWarnings (p.withPcu (p.pcu.goQuiet ch)) else p

/-! ### Seconds (R10, R11) -/

/-- R10: an engine-seconds expiry. -/
def engineSecond (p : Panel) : Panel :=
  if p.pcu.engineSecondsTimer.isSome then
    judgeWarnings (p.withPcu { p.pcu with
      engineRunTime := clampAt 65535 (p.pcu.engineRunTime + 1)
      engineSecondsTimer := Timer.start oneSecond })
  else p

/-- R11: the stationary expiry. -/
def stationaryExpiry (p : Panel) : Panel :=
  if p.pcu.stationaryTimer.isSome then
    p.withPcu { p.pcu with
      stationary := true
      stationaryTime := 0
      stationaryTimer := none
      stationarySecondsTimer := Timer.start oneSecond }
  else p

/-- R11: a stationary-seconds expiry. -/
def stationarySecond (p : Panel) : Panel :=
  if p.pcu.stationarySecondsTimer.isSome then
    p.withPcu { p.pcu with
      stationaryTime := clampAt 65535 (p.pcu.stationaryTime + 1)
      stationarySecondsTimer := Timer.start oneSecond }
  else p

/-! ### Injector pulses (R12) -/

/-- R12: a falling INJ edge opens a pulse, and gives up one already open. -/
def injectorOpen (p : Panel) : Panel :=
  p.withPcu { p.pcu with
    openPulse := some ⟨p.pcu.timebase, false⟩
    longPulseTimer := Timer.start longPulseLimit }

/-- R12: the width of a pulse that closes at `now`. -/
def OpenPulse.width (now : Micros) (o : OpenPulse) : Nat :=
  if o.long then longPulseLimit else clampAt longPulseLimit (elapsed o.openedAt now)

/-- R12: a rising INJ edge completes the open pulse; with none open it is ignored. -/
def injectorClose (p : Panel) : Panel :=
  match p.pcu.openPulse with
  | none => p
  | some o =>
    injectorCompletion (o.width p.pcu.timebase)
      (p.withPcu { p.pcu with openPulse := none, longPulseTimer := none })

/-- R12: the long-pulse timer's expiry. -/
def longPulseExpiry (p : Panel) : Panel :=
  if p.pcu.longPulseTimer.isSome then
    p.withPcu { p.pcu with
      openPulse := p.pcu.openPulse.map (fun o => { o with long := true })
      longPulseTimer := none }
  else p

/-! ### The commands -/

/-- PULSE_EDGE (R3, R4, R5). -/
def execPulseEdge (ch : PulseChannel) (s : State) : Host.Outcome State Fault Refusal := s.act (pulseEdge ch)
/-- INJECTOR_OPEN (R12). -/
def execInjectorOpen (s : State) : Host.Outcome State Fault Refusal := s.act injectorOpen
/-- INJECTOR_CLOSE (R12, R32). -/
def execInjectorClose (s : State) : Host.Outcome State Fault Refusal := s.act injectorClose
/-- LONG_PULSE_EXPIRY (R12). -/
def execLongPulseExpiry (s : State) : Host.Outcome State Fault Refusal := s.act longPulseExpiry
/-- GATE_EXPIRY (R6). -/
def execGateExpiry (s : State) : Host.Outcome State Fault Refusal := s.act gateExpiry
/-- QUIET_EXPIRY (R7). -/
def execQuietExpiry (ch : PulseChannel) (s : State) : Host.Outcome State Fault Refusal := s.act (quietExpiry ch)
/-- ENGINE_SECONDS_EXPIRY (R10). -/
def execEngineSecondsExpiry (s : State) : Host.Outcome State Fault Refusal := s.act engineSecond
/-- STATIONARY_EXPIRY (R11). -/
def execStationaryExpiry (s : State) : Host.Outcome State Fault Refusal := s.act stationaryExpiry
/-- STATIONARY_SECONDS_EXPIRY (R11). -/
def execStationarySecondsExpiry (s : State) : Host.Outcome State Fault Refusal := s.act stationarySecond

end Sys2Proof.Machine
end

