-- ==== Sys2Proof/Machine/Switches.lean ====
section
/-! DEFINITION. The Switch Sampler: settling, debounce and accepted changes (R13 to R15). -/

namespace Sys2Proof.Machine

open Sys2Proof

/-- R13, R14: how many consecutive samples a mode requires. -/
def requiredSamples : Mode → Nat
  | .standby => 2
  | _ => 4

/-- What one sample did to an input. -/
inductive SampleEvent where
  | nothing | settled | changed
  deriving DecidableEq, Repr

/-- A sampled level as an accepted one. -/
def levelOf (active : Bool) : SwitchLevel := if active then .active else .inactive

/-- R13: a sample of an UNSETTLED input: a sample that agrees with the one before adds 1, any other sets the
count to 1; at the required count the input settles. -/
def SwitchState.settleSample (required : Nat) (active : Bool) (i : SwitchState) : SwitchState × SampleEvent :=
  let count := if 0 < i.count ∧ i.lastActive = active then i.count + 1 else 1
  if required ≤ count then (⟨levelOf active, 0, active⟩, .settled) else (⟨.unsettled, count, active⟩, .nothing)

/-- R14: a sample of an input with an accepted level. -/
def SwitchState.debounceSample (required : Nat) (active : Bool) (i : SwitchState) : SwitchState × SampleEvent :=
  if i.accepted = levelOf active then (⟨i.accepted, 0, active⟩, .nothing)
  else if required ≤ i.count + 1 then (⟨levelOf active, 0, active⟩, .changed)
  else (⟨i.accepted, i.count + 1, active⟩, .nothing)

/-- R13, R14: a sample of an input. -/
def SwitchState.sample (required : Nat) (active : Bool) (i : SwitchState) : SwitchState × SampleEvent :=
  if i.accepted = .unsettled then i.settleSample required active else i.debounceSample required active

/-- R15: an input joins the seen-change set of each link. -/
def Sws.markSeen (i : SwitchInput) (w : Sws) : Sws :=
  { w with seen := PerLink.map (fun set => set ||| i.bit) w.seen }

/-- R15: the deliveries of a new level that are the input's own: IGN_ON to the Power Mode Controller, and a
press of REAR_CALL to the Warning Controller. -/
def deliverLevel (i : SwitchInput) (pressed : Bool) (p : Panel) : Panel :=
  match i with
  | .ignOn => takeIgnition p
  | .rearCall => if pressed && inputActive p .rearCall then raiseEvent .rearCall p else p
  | _ => p

/-- R13, R15: what follows one input's sample: a settled level is delivered without notice or press; an
accepted change joins every seen-change set and posts notice INPUTS to all links. The warning conditions take the new
level first, in the mode that stands, and then the input's own reader, such as the Power Mode Controller of IGN_ON:
R15 gives no order (DESIGN CHOICE, assumption 54). -/
def deliverSample (p : Panel) (e : SwitchInput × SampleEvent) : Panel :=
  match e.2 with
  | .nothing => p
  | .settled => deliverLevel e.1 false (judgeWarnings p)
  | .changed =>
    deliverLevel e.1 true (judgeWarnings (notifyAll .inputs (p.withSws (p.sws.markSeen e.1))))

/-- R13 to R15: all twelve pins sampled together, in the mode that stands at the sample; the inputs' changes
are then delivered in pin order. -/
def switchSample (pins : BitVec 12) (p : Panel) : Panel :=
  let required := requiredSamples p.pmc.mode
  let results : PerSwitch (SwitchState × SampleEvent) :=
    PerSwitch.of fun i => (p.sws.inputs.get i).sample required (pinActive pins i)
  let p := p.withSws { p.sws with
    inputs := PerSwitch.map Prod.fst results
    sampleTimer := Timer.start (sampleInterval p.pmc.mode)
    pins := pins }
  (allInputs.map fun i => (i, (results.get i).2)).foldl deliverSample p

/-- SWITCH_SAMPLE (R13 to R15). -/
def execSwitchSample (pins : BitVec 12) (s : State) : Host.Outcome State Fault Refusal := s.act (switchSample pins)

end Sys2Proof.Machine
end

