-- ==== Sys2Proof/Machine/Tick.lean ====
section
/-! DEFINITION. One microsecond of the timebase (R2) with no command waiting: every running timer counts down,
and those that reach their expiry are taken one after another (assumption 1). -/

namespace Sys2Proof.Machine

open Sys2Proof

/-! ### Counting down -/

/-- A timer one microsecond on. -/
def Timer.count (t : Timer) : Timer := t.map (fun n => n - 1)

/-- A pulse channel one microsecond on. -/
def PulseInput.count (i : PulseInput) : PulseInput := { i with quietTimer := Timer.count i.quietTimer }

/-- R2: the Pulse Capture Unit one microsecond on; the timebase wraps. -/
def Pcu.countDown (u : Pcu) : Pcu :=
  { u with
    timebase := u.timebase + 1
    spd := u.spd.count
    eng := u.eng.count
    gateTimer := Timer.count u.gateTimer
    engineSecondsTimer := Timer.count u.engineSecondsTimer
    stationaryTimer := Timer.count u.stationaryTimer
    stationarySecondsTimer := Timer.count u.stationarySecondsTimer
    longPulseTimer := Timer.count u.longPulseTimer }

/-- The Converter one microsecond on. -/
def Adc.countDown (a : Adc) : Adc :=
  { a with
    conversion := a.conversion.map (fun c => { c with timer := Timer.count c.timer })
    faults := PerSender.map (fun f => { f with persistence := Timer.count f.persistence }) a.faults }

/-- The Warning Controller one microsecond on. -/
def Wrc.countDown (w : Wrc) : Wrc :=
  { w with
    linkGraceTimer := Timer.count w.linkGraceTimer
    entries := w.entries.map (fun e => { e with resound := Timer.count e.resound })
    players := PerSounder.map (fun pl => { pl with timer := Timer.count pl.timer }) w.players }

/-- A reply one microsecond on. -/
def Reply.countDown (r : Reply) : Reply := { r with timer := Timer.count r.timer }

/-- A link port one microsecond on. -/
def LinkPort.countDown (port : LinkPort) : LinkPort :=
  { port with
    gapTimer := Timer.count port.gapTimer
    presenceTimer := Timer.count port.presenceTimer
    reply := port.reply.map Reply.countDown
    cutOff := port.cutOff.map Reply.countDown }

/-- The Power Mode Controller one microsecond on. -/
def Pmc.countDown (c : Pmc) : Pmc :=
  { c with
    bulbCheckTimer := Timer.count c.bulbCheckTimer
    beltTimer := Timer.count c.beltTimer
    shutdownTimer := Timer.count c.shutdownTimer }

/-- The part one microsecond on, before any expiry is taken. -/
def Panel.countDown (p : Panel) : Panel :=
  { p with
    pcu := p.pcu.countDown
    sws := { p.sws with sampleTimer := Timer.count p.sws.sampleTimer }
    adc := p.adc.countDown
    dfa := { p.dfa with fuelSampleTimer := Timer.count p.dfa.fuelSampleTimer }
    gdr := { p.gdr with refreshTimer := Timer.count p.gdr.refreshTimer }
    wrc := p.wrc.countDown
    svm := { p.svm with secondDivider := Timer.count p.svm.secondDivider }
    nvs := { p.nvs with cellTimer := Timer.count p.nvs.cellTimer }
    lnk := { p.lnk with ports := PerLink.map LinkPort.countDown p.lnk.ports }
    pmc := p.pmc.countDown }

/-! ### Expiries -/

/-- R173: a reply's character ends: the next one begins, or the reply ends. -/
def replyCharacterEnd (l : Link) (p : Panel) : Panel :=
  let port := p.lnk.ports.get l
  match port.reply with
  | none => p
  | some r =>
    if r.next < r.chars.length then
      p.withPort l { port with reply := some { r with next := r.next + 1, timer := Timer.start characterTime } }
    else replyEnd l p

/-- R180: the character of a reply cut off by a restart ends, and TX returns to the idle level. -/
def cutOffEnd (l : Link) (p : Panel) : Panel := p.withPort l { p.lnk.ports.get l with cutOff := none }

/-- R111: the end of what a player is doing. -/
def playerStepEnd (sd : Sounder) (p : Panel) : Panel :=
  match (p.wrc.players.get sd).state with
  | .idle => p
  | .strike _ _ | .ending _ _ => strikeEnd sd p
  | .gap _ _ => gapEnd sd p
  | .rest => restEnd sd p

/-- R17: the conversion in progress completes with what its channel's input reads as. -/
def conversionEnd (p : Panel) : Panel :=
  match p.adc.conversion with
  | none => p
  | some c => conversionComplete (p.adc.analog.get c.channel) p

/-- A timer that may be due, and what its expiry does. -/
structure Expiry where
  timer : Panel → Timer
  effect : Panel → Panel

/-- The expiries of a link. -/
def linkExpiries (l : Link) : List Expiry :=
  [⟨fun p => (p.lnk.ports.get l).gapTimer, gapTimerExpiry l⟩,
   ⟨fun p => (p.lnk.ports.get l).reply.bind Reply.timer, replyCharacterEnd l⟩,
   ⟨fun p => (p.lnk.ports.get l).cutOff.bind Reply.timer, cutOffEnd l⟩,
   ⟨fun p => (p.lnk.ports.get l).presenceTimer, presenceExpiry l⟩]

/-- The expiries in the order in which those due in one microsecond are taken (assumption 1: the manual
leaves the order open). -/
def expiries : List Expiry :=
  [⟨fun p => p.pcu.longPulseTimer, longPulseExpiry⟩,
   ⟨fun p => p.pcu.gateTimer, gateExpiry⟩,
   ⟨fun p => p.pcu.spd.quietTimer, quietExpiry .spd⟩,
   ⟨fun p => p.pcu.eng.quietTimer, quietExpiry .eng⟩,
   ⟨fun p => p.pcu.engineSecondsTimer, engineSecond⟩,
   ⟨fun p => p.pcu.stationaryTimer, stationaryExpiry⟩,
   ⟨fun p => p.pcu.stationarySecondsTimer, stationarySecond⟩,
   ⟨fun p => p.sws.sampleTimer, fun p => switchSample p.sws.pins p⟩,
   ⟨fun p => p.adc.conversion.bind Conversion.timer, conversionEnd⟩] ++
  allSenders.map (fun sd => ⟨fun p => (p.adc.faults.get sd).persistence, persistenceExpiry sd⟩) ++
  [⟨fun p => p.dfa.fuelSampleTimer, fuelSampleExpiry⟩,
   ⟨fun p => p.gdr.refreshTimer, refreshExpiry⟩] ++
  allKinds.map (fun k => ⟨fun p => (p.wrc.entry k).bind WarningEntry.resound, resoundExpiry k⟩) ++
  [⟨fun p => p.wrc.players.front.timer, playerStepEnd .front⟩,
   ⟨fun p => p.wrc.players.rear.timer, playerStepEnd .rear⟩,
   ⟨fun p => p.wrc.linkGraceTimer, linkGraceExpiry⟩,
   ⟨fun p => p.svm.secondDivider, oneSecondEvent⟩,
   ⟨fun p => p.nvs.cellTimer, cellProgrammed⟩] ++
  linkExpiries .front ++ linkExpiries .rear ++ linkExpiries .service ++
  [⟨fun p => p.pmc.bulbCheckTimer, bulbCheckExpiry⟩,
   ⟨fun p => p.pmc.beltTimer, beltTimerExpiry⟩,
   ⟨fun p => p.pmc.shutdownTimer, shutdownTimerExpiry⟩]

/-- An expiry taken if its timer has reached it. -/
def Expiry.take (p : Panel) (e : Expiry) : Panel := if e.timer p = some 0 then e.effect p else p

/-- One microsecond of the part. -/
def Panel.tick (p : Panel) : Panel := expiries.foldl Expiry.take p.countDown

/-- One microsecond of the machine: nothing happens while keep-alive is lost. -/
def tick (s : State) : Host.Outcome State Fault Refusal := s.act Panel.tick

end Sys2Proof.Machine
end

