-- ==== Sys2Proof/Machine/Dispatch.lean ====
section
/-! DEFINITION. What each command does: one arm per constructor of `Instr`. -/

namespace Sys2Proof.Machine

open Sys2Proof

/-- The effect of a command on everything but the queue. -/
def exec (i : Instr) (s : State) : Host.Outcome State Fault Refusal :=
  match i with
  | .pulseEdge ch => Sys2Proof.Machine.execPulseEdge ch s
  | .injectorOpen => Sys2Proof.Machine.execInjectorOpen s
  | .injectorClose => Sys2Proof.Machine.execInjectorClose s
  | .longPulseExpiry => Sys2Proof.Machine.execLongPulseExpiry s
  | .gateExpiry => Sys2Proof.Machine.execGateExpiry s
  | .quietExpiry ch => Sys2Proof.Machine.execQuietExpiry ch s
  | .engineSecondsExpiry => Sys2Proof.Machine.execEngineSecondsExpiry s
  | .stationaryExpiry => Sys2Proof.Machine.execStationaryExpiry s
  | .stationarySecondsExpiry => Sys2Proof.Machine.execStationarySecondsExpiry s
  | .switchSample pins => Sys2Proof.Machine.execSwitchSample pins s
  | .conversionComplete reading => Sys2Proof.Machine.execConversionComplete reading s
  | .persistenceExpiry sender => Sys2Proof.Machine.execPersistenceExpiry sender s
  | .driverOverload item => Sys2Proof.Machine.execDriverOverload item s
  | .fuelSampleExpiry => Sys2Proof.Machine.execFuelSampleExpiry s
  | .refreshExpiry => Sys2Proof.Machine.execRefreshExpiry s
  | .resoundExpiry kind => Sys2Proof.Machine.execResoundExpiry kind s
  | .strikeEnd player => Sys2Proof.Machine.execStrikeEnd player s
  | .gapEnd player => Sys2Proof.Machine.execGapEnd player s
  | .restEnd player => Sys2Proof.Machine.execRestEnd player s
  | .linkGraceExpiry => Sys2Proof.Machine.execLinkGraceExpiry s
  | .oneSecondEvent => Sys2Proof.Machine.execOneSecondEvent s
  | .cellProgrammed => Sys2Proof.Machine.execCellProgrammed s
  | .powerOnReset strapUnits strapRear => Sys2Proof.Machine.execPowerOnReset strapUnits strapRear s
  | .restartBegin strapUnits strapRear => Sys2Proof.Machine.execRestartBegin strapUnits strapRear s
  | .supplyLowAsserted => Sys2Proof.Machine.execSupplyLowAsserted s
  | .supplyLowReleased => Sys2Proof.Machine.execSupplyLowReleased s
  | .bulbCheckExpiry => Sys2Proof.Machine.execBulbCheckExpiry s
  | .beltTimerExpiry => Sys2Proof.Machine.execBeltTimerExpiry s
  | .shutdownTimerExpiry => Sys2Proof.Machine.execShutdownTimerExpiry s
  | .characterReceived link samples => Sys2Proof.Machine.execCharacterReceived link samples s
  | .gapTimerExpiry link => Sys2Proof.Machine.execGapTimerExpiry link s
  | .replyEnd link => Sys2Proof.Machine.execReplyEnd link s
  | .presenceExpiry link => Sys2Proof.Machine.execPresenceExpiry link s
  | .presence link => Sys2Proof.Machine.execPresence link s
  | .noticesRead link => Sys2Proof.Machine.execNoticesRead link s
  | .noticeMaskSet link mask => Sys2Proof.Machine.execNoticeMaskSet link mask s
  | .inputsRead link => Sys2Proof.Machine.execInputsRead link s
  | .errorsRead link => Sys2Proof.Machine.execErrorsRead link s
  | .identityRead link => Sys2Proof.Machine.execIdentityRead link s
  | .valuesRead link => Sys2Proof.Machine.execValuesRead link s
  | .odometerRead link => Sys2Proof.Machine.execOdometerRead link s
  | .tripRead link index => Sys2Proof.Machine.execTripRead link index s
  | .warningsRead link => Sys2Proof.Machine.execWarningsRead link s
  | .clockRead link => Sys2Proof.Machine.execClockRead link s
  | .serviceRead link => Sys2Proof.Machine.execServiceRead link s
  | .checkRead link => Sys2Proof.Machine.execCheckRead link s
  | .tripReset link index => Sys2Proof.Machine.execTripReset link index s
  | .tripHold link index => Sys2Proof.Machine.execTripHold link index s
  | .tripResume link index => Sys2Proof.Machine.execTripResume link index s
  | .tripSetDestination link km => Sys2Proof.Machine.execTripSetDestination link km s
  | .warningAck link kind => Sys2Proof.Machine.execWarningAck link kind s
  | .call link => Sys2Proof.Machine.execCall link s
  | .overspeedSet link setpoint => Sys2Proof.Machine.execOverspeedSet link setpoint s
  | .rearQuietSet link value => Sys2Proof.Machine.execRearQuietSet link value s
  | .clockSet link time => Sys2Proof.Machine.execClockSet link time s
  | .serviceReset link slot => Sys2Proof.Machine.execServiceReset link slot s
  | .checkStart link => Sys2Proof.Machine.execCheckStart link s
  | .serviceWrite link slot item => Sys2Proof.Machine.execServiceWrite link slot item s
  | .storeOpen link => Sys2Proof.Machine.execStoreOpen link s
  | .storeStatus link => Sys2Proof.Machine.execStoreStatus link s
  | .windowSelect link region index mode => Sys2Proof.Machine.execWindowSelect link region index mode s
  | .windowRead link => Sys2Proof.Machine.execWindowRead link s
  | .windowWrite link value => Sys2Proof.Machine.execWindowWrite link value s
  | .bankSwitch link bank => Sys2Proof.Machine.execBankSwitch link bank s
  | .odometerSet link value => Sys2Proof.Machine.execOdometerSet link value s
  | .restart link => Sys2Proof.Machine.execRestart link s
  | .keepAliveLost => Sys2Proof.Machine.execKeepAliveLost s
  | .falseStart link => Sys2Proof.Machine.execFalseStart link s
  | .rxReturnsToIdleLevel link => Sys2Proof.Machine.execRxReturnsToIdleLevel link s

end Sys2Proof.Machine
end

