-- ==== Sys2Proof/Safety.lean ====
section
/-! DEFINITION. What claims are stated with: how far an operation may reach, and the invariants of the
machine. -/

namespace Sys2Proof.Machine

open Sys2Proof

/-! ### How far an operation reaches -/

/-- `q` differs from `p` in the Warning Controller at most, and in a notice WARNINGS posted to all three
links. Every other block, every other notice and the queue of commands are the same. -/
def WarningsOnly (p q : Panel) : Prop :=
  q = { p with wrc := q.wrc, lnk := q.lnk } ∧ (q.lnk = p.lnk ∨ q.lnk = (notifyAll .warnings p).lnk)

/-- `q` differs from `p` in the store's queue at most (its pending jobs, the one in flight and the cell timer)
and in a notice STORE posted to SERVICE. No cell is changed. -/
def QueueOnly (p q : Panel) : Prop :=
  q = { p with lnk := q.lnk, nvs :=
          { p.nvs with queue := q.nvs.queue, inFlight := q.nvs.inFlight, cellTimer := q.nvs.cellTimer } } ∧
  (q.lnk = p.lnk ∨ q.lnk = (notifyLink .store .service p).lnk)

/-! ### Ready links and answers -/

/-- A link that takes a message at once (R178, R180): the part is kept alive, recovery is done, and the port
has neither a reply in transmission nor a waiting message. -/
def Ready (l : Link) (s : State) : Prop :=
  s.powered = true ∧ s.nvs.recoveryDone = true ∧ (s.lnk.ports.get l).reply = none ∧
    (s.lnk.ports.get l).waiting = none

/-- The state whose part has taken a request on a link: `q` is the part after the request's effect, and the
port begins a reply of this status and data. -/
def State.answered (l : Link) (status : Status) (data : List Byte) (q : Panel) (s : State) : State :=
  { s with toPanel := startReply l status data q }

/-! ### Words the statements are made of -/

/-- R6's table: the period a gate expiry at `now` determines from a gate record, and PrevPeriod afterwards. -/
def GateCase (now : Micros) (g : GateRecord) (period prev : Option Nat) : Prop :=
  (2 ≤ g.count → ∀ a b, g.firstEdge = some a → g.lastEdge = some b →
    period = some (elapsed a b / (g.count - 1)) ∧ prev = period) ∧
  (g.count < 2 → ∀ p b, g.prevPeriod = some p → g.lastEdge = some b →
    period = some (max p (elapsed b now)) ∧ prev = some p) ∧
  (g.count < 2 → g.prevPeriod = none → period = none ∧ prev = none)

/-- R65: the part with the range it holds delivered, once recovery is done. -/
def Panel.withRange (p : Panel) : Panel :=
  if p.nvs.recoveryDone then { p with trc := { p.trc with lastRange := some (rangeKm p) } } else p

/-- R150: the part with its fault indication as its terms stand, once recovery is done. -/
def Panel.withFaults (p : Panel) : Panel :=
  if p.nvs.recoveryDone then { p with chk := { p.chk with faultIndication := faultTerms p } } else p

/-- R51's table: whether a link is the effective owner of a record, by the strap REAR_FITTED and the presence of REAR. -/
def Owns (p : Panel) (l : Link) : TripId → Prop
  | .tripA | .tripB => l = .front
  | .journey => l = .rear ∧ p.pmc.rearFitted = true ∧ p.lnk.ports.rear.present = true ∨
      l = .front ∧ (p.pmc.rearFitted = false ∨ p.lnk.ports.rear.present = false)
  | .tank => False

/-- The table with every item's State computed as R122 states, from the part's odometer, day count and
thresholds. -/
def Panel.itemsGraded (p : Panel) : Prop :=
  ∀ i, (p.svm.items.get i).state = itemState p.nvs.calibration (odoKm p) p.svm.dayCount (p.svm.items.get i)

/-- A job with this data is in flight or pending. -/
def Nvs.Holds (n : Nvs) (data : JobData) : Prop :=
  ∃ j : WriteJob, (j ∈ n.queue ∨ n.inFlight = some j) ∧ j.data = data

/-- An URGENT job with this data is in flight or pending (R159). -/
def Nvs.HoldsUrgent (n : Nvs) (data : JobData) : Prop :=
  ∃ j : WriteJob, (j ∈ n.queue ∨ n.inFlight = some j) ∧ j.data = data ∧ j.jobClass = .urgent

/-- The command that stands for the end of what a player is doing (R111). -/
def playerCommand (sd : Sounder) : PlayerState → Option Instr
  | .idle => none
  | .strike _ _ | .ending _ _ => some (.strikeEnd sd)
  | .gap _ _ => some (.gapEnd sd)
  | .rest => some (.restEnd sd)

/-- The timed commands of a link: the gap and presence timers, and the reply's last character (R173, R176, R182). -/
def linkCommands (l : Link) (port : LinkPort) : List (Instr × Timer) :=
  [(.gapTimerExpiry l, port.gapTimer), (.presenceExpiry l, port.presenceTimer)] ++
  (match port.reply with
    | some r => if r.next < r.chars.length then [] else [(.replyEnd l, r.timer)]
    | none => [])

/-- The commands that stand for what a timer of the part brings, each with its timer. -/
def timedCommands (p : Panel) : List (Instr × Timer) :=
  [(.longPulseExpiry, p.pcu.longPulseTimer), (.gateExpiry, p.pcu.gateTimer),
   (.quietExpiry .spd, p.pcu.spd.quietTimer), (.quietExpiry .eng, p.pcu.eng.quietTimer),
   (.engineSecondsExpiry, p.pcu.engineSecondsTimer), (.stationaryExpiry, p.pcu.stationaryTimer),
   (.stationarySecondsExpiry, p.pcu.stationarySecondsTimer), (.switchSample p.sws.pins, p.sws.sampleTimer)] ++
  p.adc.conversion.toList.map (fun c => (.conversionComplete (p.adc.analog.get c.channel), c.timer)) ++
  allSenders.map (fun sd => (.persistenceExpiry sd, (p.adc.faults.get sd).persistence)) ++
  [(.fuelSampleExpiry, p.dfa.fuelSampleTimer), (.refreshExpiry, p.gdr.refreshTimer)] ++
  p.wrc.entries.map (fun e => (.resoundExpiry e.kind, ((p.wrc.entry e.kind).bind WarningEntry.resound))) ++
  [Sounder.front, Sounder.rear].filterMap
    (fun sd => (playerCommand sd (p.wrc.players.get sd).state).map fun c => (c, (p.wrc.players.get sd).timer)) ++
  [(.linkGraceExpiry, p.wrc.linkGraceTimer), (.oneSecondEvent, p.svm.secondDivider),
   (.cellProgrammed, p.nvs.cellTimer)] ++
  [Link.front, Link.rear, Link.service].flatMap (fun l => linkCommands l (p.lnk.ports.get l)) ++
  [(.bulbCheckExpiry, p.pmc.bulbCheckTimer), (.beltTimerExpiry, p.pmc.beltTimer),
   (.shutdownTimerExpiry, p.pmc.shutdownTimer)]

/-- Whether a notice kind stands in a link's set. -/
def Noticed (k : NoticeKind) (l : Link) (p : Panel) : Prop :=
  (p.lnk.ports.get l).noticeSet &&& k.bit = k.bit

/-! ### What a judgement of the warnings comes to (R93 to R102, R110, R111, R114, R115) -/

/-- R94 to R97: a STATE kind's set test, in the spec's words. BATTERY's is over its two parts. -/
def SetTest (p : Panel) : WarningKind → Prop
  | .oilPressure => 5 ≤ p.pcu.engineRunTime ∧ (inputActive p .oilSw = true ∨
      p.adc.faults.oil.flag = false ∧ ∃ v, p.adc.oilPressure = some v ∧ v < p.nvs.calibration.oilLowThreshold)
  | .overheat => p.adc.faults.coolant.flag = false ∧
      ∃ v, p.adc.coolantTemp = some v ∧ (p.nvs.calibration.hotThreshold : Int) ≤ v
  | .brake => inputActive p .brakeFluid = true ∨ inputActive p .parkBrake = true ∧ 50 ≤ p.pcu.speedV
  | .doorMoving => (inputActive p .doorDrv = true ∨ inputActive p .doorOther = true) ∧ 50 ≤ p.pcu.speedV
  | .keyLeft => inputActive p .keyIn = true ∧ inputActive p .ignOn = false ∧ inputActive p .doorDrv = true
  | .lightsLeft => inputActive p .headlampSw = true ∧ inputActive p .ignOn = false ∧ inputActive p .doorDrv = true
  | .seatBelt => p.wrc.beltWindow = true ∧ inputActive p .beltDrv = false
  | .overspeed => p.wrc.overspeedSetpoint ≠ 0 ∧ p.wrc.overspeedSetpoint ≤ p.pcu.speedV
  | .lowFuel => (∃ e, p.dfa.estimate = some e ∧ e ≤ p.nvs.calibration.fuelReserve) ∨
      ∃ r, p.trc.lastRange = some (some r) ∧ r < 50
  | .checkFault => p.chk.faultIndication = true
  | .serviceDue => ∃ i, (p.svm.items.get i).state = .due ∨ (p.svm.items.get i).state = .overdue
  | .linkLost => p.wrc.linkGraceTimer = none ∧
      (p.lnk.ports.front.present = false ∨ p.pmc.rearFitted = true ∧ p.lnk.ports.rear.present = false)
  | .battery => p.wrc.levels.batteryLow = true ∨ p.wrc.levels.batteryHigh = true
  | .rearCall | .arrival => False

/-- R94 to R97: a STATE kind's clear test: its own for a kind with hysteresis, and the failure of its set test for the
others. -/
def ClearTest (p : Panel) : WarningKind → Prop
  | .overheat => p.adc.faults.coolant.flag = true ∨
      ∃ v, p.adc.coolantTemp = some v ∧ v ≤ (p.nvs.calibration.hotThreshold : Int) - 3
  | .doorMoving => (inputActive p .doorDrv = false ∧ inputActive p .doorOther = false) ∨ p.pcu.speedV < 30
  | .overspeed => p.wrc.overspeedSetpoint = 0 ∨ p.pcu.speedV + 30 < p.wrc.overspeedSetpoint
  | .lowFuel => (∃ e, p.dfa.estimate = some e ∧ p.nvs.calibration.fuelReserve + 20 < e) ∧
      ∃ r, p.trc.lastRange = some (some r) ∧ 60 ≤ r
  | k => ¬SetTest p k

/-- R93: a level that was `was` is now `now`: TRUE only in the kind's modes and enabled, and there TRUE from its set test
until its clear test. -/
def LevelJudged (active set clear : Prop) (was now : Bool) : Prop :=
  now = true ↔ active ∧ (was = false ∧ set ∨ was = true ∧ ¬clear)

/-- R100, R104: the entry that a STATE kind's raising inserts. -/
def raisedEntry (w : Wrc) (timeOfDay : Nat) (k : WarningKind) : WarningEntry :=
  ⟨k, true, ⟨(kindSounders k).front, (kindSounders k).rear && !(w.rearQuiet && decide (5 ≤ kindNumber k))⟩,
    ⟨false, false⟩, none, timeOfDay⟩

/-- R110, R111: the player when the list has come from `w`'s to `w'`'s: from IDLE it strikes its selection's first step;
a strike goes on, for nothing more when its entry was removed (R102); a gap ends at once when its kind is no longer
selected; a rest ends at once when nothing is. -/
def Player.follows (w w' : Wrc) (sd : Sounder) (pl : Player) : Player :=
  match pl.state with
  | .idle => match w'.selection sd with
    | some k => playStep k 1
    | none => pl
  | .strike k step => if w.entry k ≠ none ∧ w'.entry k = none then { pl with state := .ending k step } else pl
  | .ending _ _ => pl
  | .gap k _ =>
    if w'.selection sd = some k then pl
    else match w'.selection sd with
      | some j => playStep j 1
      | none => ⟨.idle, none⟩
  | .rest => if w'.selection sd = none then ⟨.idle, none⟩ else pl

/-- The Warning Controller of `q` is `w` judged afresh on the values `q` holds: the levels by their tests, an entry for
a level that rose, none for one that fell, the others as they were, and the players and the lamps after them. -/
structure JudgedFrom (w : Wrc) (q : Panel) : Prop where
  /-- R94: BatteryLow. -/
  batteryLow : LevelJudged (kindActive q .battery = true)
    ((∃ v, q.adc.batteryVoltage = some v ∧ v < 115) ∧ 10 ≤ q.pcu.engineRunTime)
    ((∃ v, q.adc.batteryVoltage = some v ∧ 118 ≤ v) ∨ q.pcu.engineRunTime < 10)
    w.levels.batteryLow q.wrc.levels.batteryLow
  /-- R94: BatteryHigh. -/
  batteryHigh : LevelJudged (kindActive q .battery = true)
    (∃ v, q.adc.batteryVoltage = some v ∧ 155 < v) (∃ v, q.adc.batteryVoltage = some v ∧ v ≤ 152)
    w.levels.batteryHigh q.wrc.levels.batteryHigh
  /-- R93 to R97: the level of every STATE kind. -/
  level : ∀ k, isEvent k = false → LevelJudged (kindActive q k = true) (SetTest q k) (ClearTest q k)
    (w.levels.get k) (q.wrc.levels.get k)
  /-- R100: a level that rose has its fresh entry. -/
  risen : ∀ k, w.levels.get k = false → q.wrc.levels.get k = true →
    q.wrc.entry k = some (raisedEntry w q.svm.timeOfDay k)
  /-- R102, R103: a level that fell has no entry. -/
  fallen : ∀ k, w.levels.get k = true → q.wrc.levels.get k = false → q.wrc.entry k = none
  /-- R93: a level that stands leaves its entry, and so do the EVENT kinds. -/
  kept : ∀ k, q.wrc.levels.get k = w.levels.get k → q.wrc.entry k = w.entry k
  /-- R100, R103: a change of the list posts notice WARNINGS to all links. -/
  noticed : ∀ k, q.wrc.entry k ≠ w.entry k → ∀ l, Noticed .warnings l q
  /-- R110, R111: the players. -/
  players : ∀ sd, q.wrc.players.get sd = (w.players.get sd).follows w q.wrc sd
  /-- R114, R115: the lamps. -/
  lamps : ∀ l, q.wrc.lamps.get l = ⟨lampWanted q l, (w.lamps.get l).blocked,
    lampUnderTest q l || (lampWanted q l && !(w.lamps.get l).blocked)⟩
  /-- Nothing else of the Warning Controller. -/
  rest : q.wrc = { w with
    levels := q.wrc.levels, entries := q.wrc.entries, players := q.wrc.players, lamps := q.wrc.lamps }

/-- `q` is `p` with its warnings judged afresh: it differs from `p` in the Warning Controller, as `JudgedFrom` says, and
in notice WARNINGS to all links, which is posted only when a level changed. -/
def WarningsJudged (p q : Panel) : Prop :=
  WarningsOnly p q ∧ JudgedFrom p.wrc q ∧ ((∀ k, q.wrc.levels.get k = p.wrc.levels.get k) → q.lnk = p.lnk)

/-! ### Commands and messages -/

/-- The command that stands for a request on a link. -/
def requestCommand (l : Link) : Request → Instr
  | .presence => .presence l
  | .noticesRead => .noticesRead l
  | .noticeMaskSet mask => .noticeMaskSet l mask
  | .inputsRead => .inputsRead l
  | .errorsRead => .errorsRead l
  | .identityRead => .identityRead l
  | .valuesRead => .valuesRead l
  | .odometerRead => .odometerRead l
  | .tripRead index => .tripRead l index
  | .warningsRead => .warningsRead l
  | .clockRead => .clockRead l
  | .serviceRead => .serviceRead l
  | .checkRead => .checkRead l
  | .tripReset index => .tripReset l index
  | .tripHold index => .tripHold l index
  | .tripResume index => .tripResume l index
  | .tripSetDestination km => .tripSetDestination l km
  | .warningAck kind => .warningAck l kind
  | .call => .call l
  | .overspeedSet setpoint => .overspeedSet l setpoint
  | .rearQuietSet value => .rearQuietSet l value
  | .clockSet time => .clockSet l time
  | .serviceReset slot => .serviceReset l slot
  | .checkStart => .checkStart l
  | .serviceWrite slot item => .serviceWrite l slot item
  | .storeOpen => .storeOpen l
  | .storeStatus => .storeStatus l
  | .windowSelect region index mode => .windowSelect l region index mode
  | .windowRead => .windowRead l
  | .windowWrite value => .windowWrite l value
  | .bankSwitch bank => .bankSwitch l bank
  | .odometerSet value => .odometerSet l value
  | .restart => .restart l

/-- The three equal samples of a bit. -/
def threeSamples (b : Bool) : BitVec 3 := if b then 7 else 0

/-- R173, R174: the 33 samples of a character received without noise: the start bit 0, the data from the least
significant bit, the mark bit and the stop bit 1. -/
def cleanCharacter (data : Byte) (mark : Bool) : BitVec 33 :=
  threeSamples true ++ threeSamples mark ++ threeSamples (data.getLsbD 7) ++ threeSamples (data.getLsbD 6) ++
  threeSamples (data.getLsbD 5) ++ threeSamples (data.getLsbD 4) ++ threeSamples (data.getLsbD 3) ++
  threeSamples (data.getLsbD 2) ++ threeSamples (data.getLsbD 1) ++ threeSamples (data.getLsbD 0) ++
  threeSamples false

/-- R175: the characters of the message that carries a request: its code, its parameters and the check that
brings their sum to 0. -/
def messageChars (r : Request) : List Byte :=
  let body := BitVec.ofNat 8 (requestCode r) :: requestParams r
  body ++ [-(charSum body)]

/-- The characters of a message received one after another: the first with its mark bit 1. -/
def receiveCommands (l : Link) : List Byte → List Instr
  | [] => []
  | code :: rest =>
    .characterReceived l (cleanCharacter code true) ::
      rest.map (fun c => .characterReceived l (cleanCharacter c false))

/-- Commands run one after another. -/
def runCommands : List Instr → State → Host.Outcome State Fault Refusal
  | [], s => .next s
  | c :: rest, s =>
    match exec c s with
    | .next t => runCommands rest t
    | o => o

/-- The machine with one link port replaced. -/
def State.withPort (l : Link) (port : LinkPort) (s : State) : State :=
  { s with toPanel := s.toPanel.withPort l port }

/-! ### Invariants -/

/-- R152, R155, R159: a job's cells lie inside the store, and so does its next cell. -/
def WriteJob.InStore (j : WriteJob) : Prop :=
  (match j.data with
    | .odometer _ => True
    | .cells first words => 0 < words.length ∧ first + words.length ≤ Memory.size) ∧
  ∀ k, j.progress = some k → k < Memory.size

/-- R152, R159, R166: the cells are in their canonical form, every job in the queue or in flight lies inside the
store, and the window's index lies within its region. -/
def StoreSound (s : State) : Prop :=
  Memory.wf s.nvs.cells = true ∧ (∀ j ∈ s.nvs.queue, j.InStore) ∧ (∀ j, s.nvs.inFlight = some j → j.InStore) ∧
    ∀ w, s.nvs.window = some w → w.index < w.region.size

/-- R139: FaultCount is the number of items whose Result is OPEN or SHORT. -/
def FaultsCounted (s : State) : Prop := s.chk.faultCount = s.chk.countFaults

/-- R100: at most one entry per kind, in priority order. -/
def EntriesInOrder (s : State) : Prop :=
  s.wrc.entries.Pairwise (fun a b => kindNumber a.kind < kindNumber b.kind)

/-- R44: the counts of a trip record within their maxima. -/
def TripCounts.InRange (c : TripCounts) : Prop :=
  c.distance ≤ countMax ∧ c.fuel ≤ countMax ∧ c.runTime ≤ runTimeMax

/-- R44, R50, R58: every record's counts in range, TANK running, arrival armed only with a destination, and
eight slots in the instant window. -/
def TripsInRange (s : State) : Prop :=
  (∀ i, (s.trc.trips.get i).counts.InRange) ∧ s.trc.trips.tank.held = false ∧
  (s.trc.arrivalArmed = true → s.trc.destinationKm.isSome = true) ∧ s.trc.ring.length = 8

/-- R190: RUN is not entered, and not kept, while SupplyLow is ASSERTED. -/
def NoRunOnLowSupply (s : State) : Prop := s.pmc.mode = .run → s.pmc.supplyLow = false

/-- An invariant that a step keeps, from every state that has it. -/
def KeptByStep (inv : State → Prop) : Prop := ∀ s t : State, inv s → step s = .next t → inv t

end Sys2Proof.Machine
end

