-- ==== Sys2Proof/Certificates/Slice0/Obligations.lean ====
section
/-! DEFINITION. The statements about the KB2610, one `def Obligations.<Name> : Prop` each, listed in
OBLIGATIONS.json. `exec c s = .next { s with toPanel := q }` says that a command completes, that the queue of
waiting commands is as it was, and that `q` is the part after it; `WarningsJudged p q` says that `q` is `p` but for
the Warning Controller, whose levels, entries, players and lamps are then as `JudgedFrom` spells out from R93 to R115,
and for its notice WARNINGS; `WarningsOnly p q` says no more than how far that reaches. -/

open Sys2Proof Sys2Proof.Machine

/-! ### The machine -/

/-- A step takes the command at the front of the queue and is `exec` of it on the machine with the queue's rest. -/
def Obligations.StepRunsTheFrontCommand : Prop :=
  ∀ (c : Instr) (rest : List Instr) (s : State),
    step { s with pending := c :: rest } = exec c { s with pending := rest }

/-- Every command completes in every state, touches no waiting command, and changes nothing while the keep-alive
supply is lost, except POWER_ON_RESET (the model's reading of R196: assumption 5). -/
def Obligations.EveryCommandAnswersNext : Prop :=
  ∀ (c : Instr) (s : State), ∃ q : Panel, exec c s = .next { s with toPanel := q } ∧
    (s.powered = false → (∀ units rear, c ≠ .powerOnReset units rear) → q = s.toPanel)

/-- With no command waiting one microsecond passes: every running timer is one microsecond less, the timebase advances
by one, and nothing else changes unless a timer is due. A timer that alone is due is taken: the step is then the
command's own effect on the part counted down; at the end of a reply's character that is not its last the next one
begins, and a reply cut off ends with its character. The idle step and its order are the model's choice (assumption
1), and so is the part without keep-alive, which nothing changes (assumption 5). -/
def Obligations.AnIdleStepIsOneMicrosecond : Prop :=
  ∀ (s : State) (p : Panel), s.pending = [] → p = s.toPanel.countDown →
    (s.powered = false → step s = .next s) ∧
    (∀ e ∈ expiries, e.timer p = (e.timer s.toPanel).map (fun n => n - 1)) ∧
    (p.powered = s.powered ∧ p.trc = s.trc ∧ p.chk = s.chk ∧
      p.pcu = { s.pcu with
        timebase := s.pcu.timebase + 1, spd := p.pcu.spd, eng := p.pcu.eng, gateTimer := p.pcu.gateTimer
        engineSecondsTimer := p.pcu.engineSecondsTimer, stationaryTimer := p.pcu.stationaryTimer
        stationarySecondsTimer := p.pcu.stationarySecondsTimer, longPulseTimer := p.pcu.longPulseTimer } ∧
      (∀ ch, (p.pcu.input ch).edgeRecord = (s.pcu.input ch).edgeRecord ∧
        (p.pcu.input ch).gate = (s.pcu.input ch).gate) ∧
      p.sws = { s.sws with sampleTimer := p.sws.sampleTimer } ∧
      p.adc = { s.adc with conversion := p.adc.conversion, faults := p.adc.faults } ∧
      p.adc.conversion.map (fun c => (c.channel, c.startedAt)) =
        s.adc.conversion.map (fun c => (c.channel, c.startedAt)) ∧
      (∀ sd, { p.adc.faults.get sd with persistence := none } = { s.adc.faults.get sd with persistence := none }) ∧
      p.dfa = { s.dfa with fuelSampleTimer := p.dfa.fuelSampleTimer } ∧
      p.gdr = { s.gdr with refreshTimer := p.gdr.refreshTimer } ∧
      p.wrc = { s.wrc with
        linkGraceTimer := p.wrc.linkGraceTimer, entries := p.wrc.entries, players := p.wrc.players } ∧
      p.wrc.entries.map (fun e => { e with resound := none }) =
        s.wrc.entries.map (fun e => { e with resound := none }) ∧
      (∀ sd, (p.wrc.players.get sd).state = (s.wrc.players.get sd).state) ∧
      p.svm = { s.svm with secondDivider := p.svm.secondDivider } ∧
      p.nvs = { s.nvs with cellTimer := p.nvs.cellTimer } ∧
      p.pmc = { s.pmc with
        bulbCheckTimer := p.pmc.bulbCheckTimer, beltTimer := p.pmc.beltTimer
        shutdownTimer := p.pmc.shutdownTimer } ∧
      p.lnk.restartArmed = s.lnk.restartArmed ∧
      ∀ l, { p.lnk.ports.get l with gapTimer := none, presenceTimer := none, reply := none, cutOff := none } =
          { s.lnk.ports.get l with gapTimer := none, presenceTimer := none, reply := none, cutOff := none } ∧
        (p.lnk.ports.get l).reply.map (fun r => (r.chars, r.next)) =
          (s.lnk.ports.get l).reply.map (fun r => (r.chars, r.next)) ∧
        (p.lnk.ports.get l).cutOff.map (fun r => (r.chars, r.next)) =
          (s.lnk.ports.get l).cutOff.map (fun r => (r.chars, r.next))) ∧
    (s.powered = true → (∀ e ∈ expiries, e.timer p ≠ some 0) → step s = .next { s with toPanel := p }) ∧
    (s.powered = true → ∀ c q, (c, some 0) ∈ timedCommands p →
      expiries.countP (fun e => e.timer p == some 0) = 1 →
      exec c { s with toPanel := p } = .next { s with toPanel := q } → (∀ e ∈ expiries, e.timer q ≠ some 0) →
      step s = .next { s with toPanel := q }) ∧
    (s.powered = true → expiries.countP (fun e => e.timer p == some 0) = 1 → ∀ l r,
      ((p.lnk.ports.get l).reply = some r → r.timer = some 0 → r.next < r.chars.length →
        step s = .next { s with toPanel := p.withPort l { p.lnk.ports.get l with
          reply := some { r with next := r.next + 1, timer := some 1408 } } }) ∧
      ((p.lnk.ports.get l).cutOff = some r → r.timer = some 0 →
        step s = .next { s with toPanel := p.withPort l { p.lnk.ports.get l with cutOff := none } }))

/-- A command that stands for an expiry or a completion that is not under way changes nothing (the model's choice:
assumption 1; for the injector pulse, R12). -/
def Obligations.IdleTimersHaveNoExpiry : Prop :=
  ∀ s : State,
    (s.pcu.openPulse = none → exec .injectorClose s = .next s) ∧
    (s.pcu.longPulseTimer = none → exec .longPulseExpiry s = .next s) ∧
    (s.pcu.gateTimer = none → exec .gateExpiry s = .next s) ∧
    (∀ ch, (s.pcu.input ch).quietTimer = none → exec (.quietExpiry ch) s = .next s) ∧
    (s.pcu.engineSecondsTimer = none → exec .engineSecondsExpiry s = .next s) ∧
    (s.pcu.stationaryTimer = none → exec .stationaryExpiry s = .next s) ∧
    (s.pcu.stationarySecondsTimer = none → exec .stationarySecondsExpiry s = .next s) ∧
    (∀ r, s.adc.conversion = none → exec (.conversionComplete r) s = .next s) ∧
    (∀ sd, (s.adc.faults.get sd).persistence = none → exec (.persistenceExpiry sd) s = .next s) ∧
    (s.dfa.fuelSampleTimer = none → exec .fuelSampleExpiry s = .next s) ∧
    (s.gdr.refreshTimer = none → exec .refreshExpiry s = .next s) ∧
    (∀ k, (∀ e, s.wrc.entry k = some e → e.resound = none) → exec (.resoundExpiry k) s = .next s) ∧
    (∀ sd, (s.wrc.players.get sd).state = .idle → exec (.strikeEnd sd) s = .next s ∧
      exec (.gapEnd sd) s = .next s ∧ exec (.restEnd sd) s = .next s) ∧
    (s.wrc.linkGraceTimer = none → exec .linkGraceExpiry s = .next s) ∧
    (s.nvs.inFlight = none → exec .cellProgrammed s = .next s) ∧
    (∀ units rear, s.lnk.restartArmed = false → exec (.restartBegin units rear) s = .next s) ∧
    (s.pmc.bulbCheckTimer = none → exec .bulbCheckExpiry s = .next s) ∧
    (s.pmc.beltTimer = none → exec .beltTimerExpiry s = .next s) ∧
    (s.pmc.shutdownTimer = none → exec .shutdownTimerExpiry s = .next s) ∧
    (∀ l, (s.lnk.ports.get l).gapTimer = none → exec (.gapTimerExpiry l) s = .next s) ∧
    (∀ l, (s.lnk.ports.get l).reply = none → exec (.replyEnd l) s = .next s) ∧
    (∀ l, (s.lnk.ports.get l).presenceTimer = none → exec (.presenceExpiry l) s = .next s)

/-! ### Invariants that every step keeps -/

/-- Every step keeps the cells in their canonical form, and the jobs and the window's index inside the store. -/
def Obligations.EveryStepKeepsTheStoreSound : Prop := KeptByStep StoreSound

/-- Every step keeps FaultCount equal to the number of items whose Result is OPEN or SHORT. -/
def Obligations.EveryStepKeepsFaultsCounted : Prop := KeptByStep FaultsCounted

/-- Every step keeps the active warning list in priority order with at most one entry per kind. -/
def Obligations.EveryStepKeepsEntriesInOrder : Prop := KeptByStep EntriesInOrder

/-- Every step keeps the trip counts within their maxima, TANK running, arrival unarmed without a destination, and
eight slots in the instant window. -/
def Obligations.EveryStepKeepsTripsInRange : Prop := KeptByStep TripsInRange

/-- No step leads into RUN, or stays there, while SupplyLow is ASSERTED. -/
def Obligations.EveryStepKeepsOutOfRunOnLowSupply : Prop := KeptByStep NoRunOnLowSupply

/-- The five invariants hold right after reset (of an erased store: assumption 3). -/
def Obligations.TheInvariantsHoldAtReset : Prop :=
  StoreSound State.reset ∧ FaultsCounted State.reset ∧ EntriesInOrder State.reset ∧ TripsInRange State.reset ∧
    NoRunOnLowSupply State.reset

/-! ### Pulse inputs, distance and fuel -/

/-- PULSE_EDGE: an edge nearer than the minimum spacing to the last accepted one changes nothing; an accepted ENG
edge enters its records alone; an accepted SPD edge also ends Stationary and adds 100 to Rd, here short of a
distance unit. -/
def Obligations.AnEdgeIsAcceptedOrRejected : Prop :=
  ∀ s : State, s.powered = true →
    (∀ ch t, (s.pcu.input ch).edgeRecord = some t →
      elapsed t s.pcu.timebase < (match ch with | .spd => 200 | .eng => 500) →
      exec (.pulseEdge ch) s = .next s) ∧
    ((∀ t, s.pcu.eng.edgeRecord = some t → 500 ≤ elapsed t s.pcu.timebase) →
      exec (.pulseEdge .eng) s = .next { s with pcu := { s.pcu with eng :=
        ⟨some s.pcu.timebase,
          ⟨s.pcu.eng.gate.count + 1,
           if s.pcu.eng.gate.count = 0 then some s.pcu.timebase else s.pcu.eng.gate.firstEdge,
           some s.pcu.timebase, s.pcu.eng.gate.prevPeriod⟩, some 500000⟩ } }) ∧
    ((∀ t, s.pcu.spd.edgeRecord = some t → 200 ≤ elapsed t s.pcu.timebase) →
      s.dfa.rd + 100 < s.nvs.calibration.pulsesPerKm →
      exec (.pulseEdge .spd) s = .next { s with
        pcu := { s.pcu with
          spd := ⟨some s.pcu.timebase,
            ⟨s.pcu.spd.gate.count + 1,
             if s.pcu.spd.gate.count = 0 then some s.pcu.timebase else s.pcu.spd.gate.firstEdge,
             some s.pcu.timebase, s.pcu.spd.gate.prevPeriod⟩, some 1000000⟩
          stationary := false, stationaryTime := 0, stationaryTimer := some 2000000
          stationarySecondsTimer := none }
        dfa := { s.dfa with rd := s.dfa.rd + 100 } })

/-- A distance unit that crosses no whole kilometre: Rd keeps the rest, every RUNNING record and the current slot gain
one DU, OdoSubCount advances and rolls into the odometer, and the range is delivered afresh. At the odometer's limit
the odometer stands and OdoSubCount stops at 9. That the players follow once every level is judged is the model's
choice (assumption 14). -/
def Obligations.ADistanceUnitIsCounted : Prop :=
  ∀ s : State, s.powered = true → (∀ t, s.pcu.spd.edgeRecord = some t → 200 ≤ elapsed t s.pcu.timebase) →
    s.nvs.calibration.pulsesPerKm ≤ s.dfa.rd + 100 → ∀ odometer sub : Nat,
    (s.dfa.odometer < 9999999 ∧ s.dfa.odoSubCount < 9 ∧ odometer = s.dfa.odometer ∧ sub = s.dfa.odoSubCount + 1 ∨
     s.dfa.odometer < 9999999 ∧ s.dfa.odoSubCount = 9 ∧ odometer = s.dfa.odometer + 1 ∧ odometer % 10 ≠ 0 ∧
       sub = 0 ∨
     s.dfa.odometer = 9999999 ∧ odometer = s.dfa.odometer ∧ sub = min 9 (s.dfa.odoSubCount + 1)) →
    ∃ q, exec (.pulseEdge .spd) s = .next { s with toPanel := q } ∧
      WarningsJudged
        { s.toPanel with
          pcu := { s.pcu with
            spd := s.pcu.spd.accept .spd s.pcu.timebase
            stationary := false, stationaryTime := 0, stationaryTimer := some 2000000
            stationarySecondsTimer := none }
          dfa := { s.dfa with
            rd := s.dfa.rd + 100 - s.nvs.calibration.pulsesPerKm, odometer := odometer, odoSubCount := sub }
          trc := { s.trc with
            trips := PerTrip.of fun i =>
              if (s.trc.trips.get i).held then s.trc.trips.get i
              else { s.trc.trips.get i with counts :=
                ⟨min 9999999 ((s.trc.trips.get i).counts.distance + 1),
                 min 9999999 (s.trc.trips.get i).counts.fuel, min 3599999 (s.trc.trips.get i).counts.runTime⟩ }
            current := ⟨min 65535 (s.trc.current.du + 1), min 65535 s.trc.current.ml⟩ } }.withRange q

/-- A whole-kilometre crossing once recovery is done: the odometer gains 0.1 km, and an URGENT odometer job of the new
value is pending when fewer than 8 jobs were, when a NORMAL job not yet begun was, or when an URGENT odometer job
already waited; no cell is changed, every service item is graded at the new value, and JOURNEY's arrival is judged in
RUN. That JOURNEY has then taken the distance unit of the crossing is the model's choice (assumption 39). -/
def Obligations.AWholeKilometreCrossing : Prop :=
  ∀ s : State, s.powered = true → (∀ t, s.pcu.spd.edgeRecord = some t → 200 ≤ elapsed t s.pcu.timebase) →
    s.nvs.calibration.pulsesPerKm ≤ s.dfa.rd + 100 → s.dfa.odometer < 9999999 → s.dfa.odoSubCount = 9 →
    s.dfa.odometer % 10 = 9 → s.nvs.recoveryDone = true →
    ∃ q, exec (.pulseEdge .spd) s = .next { s with toPanel := q } ∧
      q.dfa = { s.dfa with
        rd := s.dfa.rd + 100 - s.nvs.calibration.pulsesPerKm, odometer := s.dfa.odometer + 1, odoSubCount := 0 } ∧
      ((s.nvs.jobCount < 8 ∨ ∃ j ∈ s.nvs.queue, j.removable = true) →
        (∀ j ∈ s.nvs.queue, ∀ v, j.data ≠ .odometer v) → q.nvs.HoldsUrgent (.odometer (s.dfa.odometer + 1))) ∧
      ((∃ j ∈ s.nvs.queue, j.jobClass = .urgent ∧ ∃ v, j.data = .odometer v) →
        q.nvs.HoldsUrgent (.odometer (s.dfa.odometer + 1))) ∧
      q.nvs.cells = s.nvs.cells ∧ q.itemsGraded ∧
      (q.trc.arrivalArmed = true ↔ s.trc.arrivalArmed = true ∧
        ¬(s.pmc.mode = .run ∧ ∃ km, s.trc.destinationKm = some km ∧ km * 100 ≤ q.trc.trips.journey.counts.distance + 100)) ∧
      q.adc = s.adc ∧ q.gdr = s.gdr ∧ q.chk = s.chk ∧ q.pmc = s.pmc ∧ q.sws = s.sws

/-- GATE_EXPIRY: V and N are formed from the periods of R6, the gate records start again from the last accepted edge,
the gate timer starts again, and EngineRunning is judged on N. The warnings are judged on what is then delivered. That
the players follow once every level is judged is the model's choice (assumption 14). -/
def Obligations.AGateExpirySetsTheSpeeds : Prop :=
  ∀ s : State, s.powered = true → s.pcu.gateTimer.isSome = true →
    (∀ ch, 2 ≤ (s.pcu.input ch).gate.count →
      (s.pcu.input ch).gate.firstEdge.isSome = true ∧ (s.pcu.input ch).gate.lastEdge.isSome = true) →
    ∃ q ps pn prevS prevN, GateCase s.pcu.timebase s.pcu.spd.gate ps prevS ∧
      GateCase s.pcu.timebase s.pcu.eng.gate pn prevN ∧
      exec .gateExpiry s = .next { s with toPanel := q } ∧
      ∃ v n : Nat,
        v = (match ps with
          | none => 0
          | some p => min 3000 (roundDiv 36000000000 (p * s.nvs.calibration.pulsesPerKm))) ∧
        n = (match pn with
          | none => 0
          | some p => min 9000 (roundDiv 60000000 (p * s.nvs.calibration.tachPulsesPerRev))) ∧
        WarningsJudged
          { s.toPanel with pcu := { s.pcu with
            gateTimer := some 125000, speedV := v, engineN := n
            spd := { s.pcu.spd with gate :=
              ⟨if s.pcu.spd.edgeRecord.isSome then 1 else 0, s.pcu.spd.edgeRecord, s.pcu.spd.edgeRecord, prevS⟩ }
            eng := { s.pcu.eng with gate :=
              ⟨if s.pcu.eng.edgeRecord.isSome then 1 else 0, s.pcu.eng.edgeRecord, s.pcu.eng.edgeRecord, prevN⟩ }
            engineRunning := decide (300 ≤ n)
            engineRunTime := if 300 ≤ n ∧ s.pcu.engineRunning = true then s.pcu.engineRunTime else 0
            engineSecondsTimer :=
              if 300 ≤ n then (if s.pcu.engineRunning then s.pcu.engineSecondsTimer else some 1000000)
              else none } } q

/-- QUIET_EXPIRY, ENGINE_SECONDS_EXPIRY, STATIONARY_EXPIRY and STATIONARY_SECONDS_EXPIRY with their timers running.
That the players follow once every level is judged is the model's choice (assumption 14). -/
def Obligations.ThePulseTimersExpire : Prop :=
  ∀ s : State, s.powered = true →
    (s.pcu.spd.quietTimer.isSome = true → ∃ q, exec (.quietExpiry .spd) s = .next { s with toPanel := q } ∧
      WarningsJudged { s.toPanel with pcu :=
        { s.pcu with spd := ⟨none, ⟨0, none, none, none⟩, none⟩, speedV := 0 } } q) ∧
    (s.pcu.eng.quietTimer.isSome = true → ∃ q, exec (.quietExpiry .eng) s = .next { s with toPanel := q } ∧
      WarningsJudged { s.toPanel with pcu :=
        { s.pcu with
          eng := ⟨none, ⟨0, none, none, none⟩, none⟩, engineN := 0
          engineRunning := false, engineRunTime := 0, engineSecondsTimer := none } } q) ∧
    (s.pcu.engineSecondsTimer.isSome = true →
      ∃ q, exec .engineSecondsExpiry s = .next { s with toPanel := q } ∧
        WarningsJudged { s.toPanel with pcu :=
          { s.pcu with
            engineRunTime := min 65535 (s.pcu.engineRunTime + 1), engineSecondsTimer := some 1000000 } } q) ∧
    (s.pcu.stationaryTimer.isSome = true → exec .stationaryExpiry s = .next { s with pcu :=
      { s.pcu with
        stationary := true, stationaryTime := 0, stationaryTimer := none
        stationarySecondsTimer := some 1000000 } }) ∧
    (s.pcu.stationarySecondsTimer.isSome = true → exec .stationarySecondsExpiry s = .next { s with pcu :=
      { s.pcu with
        stationaryTime := min 65535 (s.pcu.stationaryTime + 1), stationarySecondsTimer := some 1000000 } })

/-- INJECTOR_OPEN opens a pulse, whatever was open; the long-pulse timer's expiry marks it Long; INJECTOR_CLOSE takes
its width, at most 25,000 µs, and adds the effective open time of R32 to Rf, here short of a millilitre. -/
def Obligations.TheInjectorPulseIsMeasured : Prop :=
  ∀ s : State, s.powered = true →
    exec .injectorOpen s = .next { s with pcu :=
      { s.pcu with openPulse := some ⟨s.pcu.timebase, false⟩, longPulseTimer := some 25000 } } ∧
    (∀ o, s.pcu.openPulse = some o → s.pcu.longPulseTimer.isSome = true →
      exec .longPulseExpiry s = .next { s with pcu :=
        { s.pcu with openPulse := some { o with long := true }, longPulseTimer := none } }) ∧
    (∀ o w, s.pcu.openPulse = some o →
      w = (if o.long then 25000 else min 25000 (elapsed o.openedAt s.pcu.timebase)) →
      s.dfa.rf + (w - s.nvs.calibration.injectorDeadTime) * s.nvs.calibration.injectorsPerPulse <
        s.nvs.calibration.injectorUsPerMl →
      exec .injectorClose s = .next { s with
        pcu := { s.pcu with openPulse := none, longPulseTimer := none }
        dfa := { s.dfa with rf :=
          s.dfa.rf + (w - s.nvs.calibration.injectorDeadTime) * s.nvs.calibration.injectorsPerPulse } })

/-- An injector pulse that completes `n` millilitres, taken as one whole: every RUNNING record and the current slot
gain them, and every 100 of them lower E by 1, not below 0. That the players follow once every level is judged is the
model's choice (assumption 14). -/
def Obligations.MillilitresAreCounted : Prop :=
  ∀ (s : State) (o : OpenPulse) (w n rest : Nat), s.powered = true → s.pcu.openPulse = some o →
    w = (if o.long then 25000 else min 25000 (elapsed o.openedAt s.pcu.timebase)) → 0 < n →
    rest < s.nvs.calibration.injectorUsPerMl →
    s.dfa.rf + (w - s.nvs.calibration.injectorDeadTime) * s.nvs.calibration.injectorsPerPulse =
      n * s.nvs.calibration.injectorUsPerMl + rest →
    ∃ q, exec .injectorClose s = .next { s with toPanel := q } ∧
      WarningsJudged
        { s.toPanel with
          pcu := { s.pcu with openPulse := none, longPulseTimer := none }
          dfa := { s.dfa with
            rf := rest
            fuelSubCount := (s.dfa.fuelSubCount + n) % 100
            estimate := s.dfa.estimate.map (fun e => e - (s.dfa.fuelSubCount + n) / 100) }
          trc := { s.trc with
            trips := PerTrip.of fun i =>
              if (s.trc.trips.get i).held then s.trc.trips.get i
              else { s.trc.trips.get i with counts :=
                ⟨min 9999999 (s.trc.trips.get i).counts.distance,
                 min 9999999 ((s.trc.trips.get i).counts.fuel + n),
                 min 3599999 (s.trc.trips.get i).counts.runTime⟩ }
            current := ⟨min 65535 s.trc.current.du, min 65535 (s.trc.current.ml + n)⟩ } }.withRange q

/-- FUEL_SAMPLE_EXPIRY: with no sender value nothing but the timer moves; otherwise the first case that holds of the
first setting of E, a refuel event, which resets TANK and posts TRIP to all links, a correction by 1 toward S, and no
change. That the players follow once every level is judged, and that a refuel event's range is judged once, after
TANK's reset, are the model's choices (assumptions 14, 51). -/
def Obligations.AFuelSample : Prop :=
  ∀ s : State, s.powered = true → s.dfa.fuelSampleTimer.isSome = true →
    ((s.adc.faults.fuel.flag = true ∨ s.adc.fuelLevel = none) →
      exec .fuelSampleExpiry s = .next { s with dfa := { s.dfa with fuelSampleTimer := some 2000000 } }) ∧
    ∀ level S, s.adc.faults.fuel.flag = false → s.adc.fuelLevel = some level →
      S = min s.nvs.calibration.tankCapacity level →
      (s.dfa.estimate = none → ∃ q, exec .fuelSampleExpiry s = .next { s with toPanel := q } ∧
        WarningsJudged { s.toPanel with dfa :=
          { s.dfa with estimate := some S, fuelSubCount := 0, fuelSampleTimer := some 2000000 } }.withRange q) ∧
      ∀ e, s.dfa.estimate = some e →
        (10 ≤ s.pcu.stationaryTime → e + 50 ≤ S →
          ∃ q, exec .fuelSampleExpiry s = .next { s with toPanel := q } ∧
          WarningsJudged
            (notifyAll .trip { s.toPanel with
              dfa := { s.dfa with estimate := some S, fuelSubCount := 0, fuelSampleTimer := some 2000000 }
              trc := { s.trc with trips := { s.trc.trips with tank :=
                { s.trc.trips.tank with
                  counts := ⟨0, 0, 0⟩, previous := some s.trc.trips.tank.counts } } } }).withRange q) ∧
        (¬(10 ≤ s.pcu.stationaryTime ∧ e + 50 ≤ S) → e + 30 ≤ S →
          ∃ q, exec .fuelSampleExpiry s = .next { s with toPanel := q } ∧
          WarningsJudged { s.toPanel with dfa :=
            { s.dfa with estimate := some (e + 1), fuelSampleTimer := some 2000000 } }.withRange q) ∧
        (S + 30 ≤ e →
          ∃ q, exec .fuelSampleExpiry s = .next { s with toPanel := q } ∧
          WarningsJudged { s.toPanel with dfa :=
            { s.dfa with estimate := some (e - 1), fuelSampleTimer := some 2000000 } }.withRange q) ∧
        (S < e + 30 → e < S + 30 →
          exec .fuelSampleExpiry s = .next { s with dfa := { s.dfa with fuelSampleTimer := some 2000000 } })

/-! ### Switch inputs and the converter -/

/-- SWITCH_SAMPLE with every input sampled at its accepted level: the counts return to 0 and nothing is delivered.
Otherwise an accepted level changes exactly when the mode's number of samples has differed from it, and the change
joins every seen-change set and posts INPUTS to all links; an UNSETTLED input takes its level after that many samples
that agree. An input's count is that of its samples in a row that differ from its accepted level, or of those that
agree while it is UNSETTLED, and returns to 0 at an acceptance and at a mode change. The pins sampled are those the
command carries (assumption 4). That all levels are taken, in the mode that stands at the sample, before any change is
delivered is the model's choice (assumption 16). -/
def Obligations.ALevelIsAcceptedAfterItsSamples : Prop :=
  (∀ (s : State) (pins : BitVec 12), s.powered = true →
    (∀ i, (s.sws.inputs.get i).accepted = levelOf (pinActive pins i)) →
    exec (.switchSample pins) s = .next { s with sws :=
      { s.sws with
        inputs := PerSwitch.of fun i => ⟨(s.sws.inputs.get i).accepted, 0, pinActive pins i⟩
        sampleTimer := some (if s.pmc.mode = .standby then 64000 else 8000)
        pins := pins } }) ∧
  ∀ (s : State) (pins : BitVec 12) (i : SwitchInput) (n : Nat) (x : SwitchState), s.powered = true →
    n = (if s.pmc.mode = .standby then 2 else 4) → x = s.sws.inputs.get i →
    ∃ q, exec (.switchSample pins) s = .next { s with toPanel := q } ∧
      (x.accepted ≠ .unsettled → x.accepted ≠ levelOf (pinActive pins i) → n ≤ x.count + 1 →
        (q.sws.inputs.get i).accepted = levelOf (pinActive pins i) ∧
        ∀ l, (q.sws.seen.get l).getLsbD i.idx = true ∧ Noticed .inputs l q) ∧
      (x.accepted ≠ .unsettled → (x.accepted = levelOf (pinActive pins i) ∨ x.count + 1 < n) →
        (q.sws.inputs.get i).accepted = x.accepted) ∧
      (x.accepted = .unsettled →
        (q.sws.inputs.get i).accepted =
          (if n ≤ (if 0 < x.count ∧ x.lastActive = pinActive pins i then x.count + 1 else 1)
           then levelOf (pinActive pins i) else .unsettled)) ∧
      (q.sws.inputs.get i).lastActive = pinActive pins i ∧
      (q.pmc.mode ≠ s.pmc.mode → (q.sws.inputs.get i).count = 0) ∧
      (q.pmc.mode = s.pmc.mode →
        (x.accepted = levelOf (pinActive pins i) → (q.sws.inputs.get i).count = 0) ∧
        (x.accepted ≠ .unsettled → x.accepted ≠ levelOf (pinActive pins i) →
          (q.sws.inputs.get i).count = if n ≤ x.count + 1 then 0 else x.count + 1) ∧
        (x.accepted = .unsettled → ∀ c : Nat,
          c = (if 0 < x.count ∧ x.lastActive = pinActive pins i then x.count + 1 else 1) →
          (q.sws.inputs.get i).count = if n ≤ c then 0 else c)) ∧
      q.dfa.odometer = s.dfa.odometer ∧ q.trc.trips = s.trc.trips ∧ q.svm.timeOfDay = s.svm.timeOfDay ∧
      q.nvs.cells = s.nvs.cells ∧ q.pcu = s.pcu

/-- The causes of a mode change that a switch sample brings: IGN_ON accepted INACTIVE in RUN begins SHUTDOWN; accepted
ACTIVE in SHUTDOWN or STANDBY with SupplyLow RELEASED it begins RUN; its settling after recovery ends STARTUP. Each
posts MODE to all links. -/
def Obligations.IgnitionChangesTheMode : Prop :=
  ∀ (s : State) (pins : BitVec 12), s.powered = true →
    ∃ q, exec (.switchSample pins) s = .next { s with toPanel := q } ∧
      (s.pmc.mode = .run → s.sws.inputs.ignOn.accepted = .active → pins.getLsbD 0 = false →
        3 ≤ s.sws.inputs.ignOn.count → q.pmc.mode = .shutdown ∧ ∀ l, Noticed .mode l q) ∧
      (s.pmc.mode = .shutdown → s.pmc.supplyLow = false → s.sws.inputs.ignOn.accepted = .inactive →
        pins.getLsbD 0 = true → 3 ≤ s.sws.inputs.ignOn.count → q.pmc.mode = .run ∧ ∀ l, Noticed .mode l q) ∧
      (s.pmc.mode = .standby → s.pmc.supplyLow = false → s.sws.inputs.ignOn.accepted = .inactive →
        pins.getLsbD 0 = true → 1 ≤ s.sws.inputs.ignOn.count → q.pmc.mode = .run ∧ ∀ l, Noticed .mode l q) ∧
      (s.pmc.mode = .startup → s.nvs.recoveryDone = true → s.sws.inputs.ignOn.accepted = .unsettled →
        s.sws.inputs.ignOn.lastActive = pins.getLsbD 0 → 3 ≤ s.sws.inputs.ignOn.count →
        q.pmc.mode = (if pins.getLsbD 0 = true ∧ s.pmc.supplyLow = false then .run else .standby) ∧
          ∀ l, Noticed .mode l q)

/-- CONVERSION_COMPLETE of BATTERY: the reading and the voltage are set whatever the reading, and the conversion of
AIR begins. The fault indication is judged, and the warnings on it and on the voltage. That the players follow once
every level is judged is the model's choice (assumption 14). That the fault indication stands until recovery is done
is the model's choice (assumption 49). -/
def Obligations.ABatteryConversion : Prop :=
  ∀ (s : State) (r : Byte) (started : Micros) (timer : Timer), s.powered = true →
    s.adc.conversion = some ⟨.battery, started, timer⟩ →
    ∃ q, exec (.conversionComplete r) s = .next { s with toPanel := q } ∧
      WarningsJudged
        { s.toPanel with adc := { s.adc with
            readings := { s.adc.readings with battery := some r }
            analog := { s.adc.analog with battery := r }
            batteryVoltage := some (roundDiv (r.toNat * 160) 255)
            conversion := some ⟨.air, s.pcu.timebase, some 2000⟩ } }.withFaults q

/-- CONVERSION_COMPLETE of FUEL, COOLANT or OIL: a good sender's in-range reading is converted through its curve and
idles its persistence timer; an out-of-range one starts that timer if idle and is not converted; a faulty sender
counts in-range readings from 0 after each out-of-range one, and the fiftieth ends the fault and is converted.
PERSISTENCE_EXPIRY: a sender out of range for 2 s is faulty, and the fault indication becomes TRUE. A reading of AIR
is always converted through its curve; one of REF or SPARE, or of SENSE while no output is driven, is held alone. That
the players follow once every level is judged is the model's choice (assumption 14). That the fault indication stands
until recovery is done is the model's choice (assumption 49). -/
def Obligations.ASenderReading : Prop :=
  (∀ (s : State) (sd : Sender) (c : Channel) (r : Byte) (started : Micros) (timer : Timer) (f g : SenderFault)
    (converted : Bool), s.powered = true →
    c = (match sd with | .fuel => .fuel | .coolant => .coolant | .oil => .oil) →
    s.adc.conversion = some ⟨c, started, timer⟩ → f = s.adc.faults.get sd →
    (f.flag = false ∧ 4 ≤ r.toNat ∧ r.toNat ≤ 251 ∧ g = { f with persistence := none } ∧ converted = true ∨
     f.flag = false ∧ (r.toNat ≤ 3 ∨ 252 ≤ r.toNat) ∧
       g = { f with persistence := some (f.persistence.getD 2000000) } ∧ converted = false ∨
     f.flag = true ∧ (r.toNat ≤ 3 ∨ 252 ≤ r.toNat) ∧ g = { f with inRangeCount := 0 } ∧ converted = false ∨
     f.flag = true ∧ 4 ≤ r.toNat ∧ r.toNat ≤ 251 ∧ f.inRangeCount < 49 ∧
       g = { f with inRangeCount := f.inRangeCount + 1 } ∧ converted = false ∨
     f.flag = true ∧ 4 ≤ r.toNat ∧ r.toNat ≤ 251 ∧ 49 ≤ f.inRangeCount ∧
       g = { f with flag := false, inRangeCount := 0 } ∧ converted = true) →
    ∃ q, exec (.conversionComplete r) s = .next { s with toPanel := q } ∧
      q.adc = { s.adc with
        readings := s.adc.readings.set c (some r)
        analog := s.adc.analog.set c r
        conversion := some ⟨match sd with | .fuel => .coolant | .coolant => .oil | .oil => .battery,
          s.pcu.timebase, some 2000⟩
        faults := s.adc.faults.set sd g
        fuelLevel := if converted ∧ sd = .fuel then
          some (curveValue s.nvs.calibration.tankCurve r.toNat).toNat else s.adc.fuelLevel
        coolantTemp := if converted ∧ sd = .coolant then
          some (curveValue s.nvs.calibration.coolantCurve r.toNat) else s.adc.coolantTemp
        oilPressure := if converted ∧ sd = .oil then
          some (curveValue s.nvs.calibration.oilCurve r.toNat).toNat else s.adc.oilPressure } ∧
      WarningsJudged { s.toPanel with adc := q.adc }.withFaults q) ∧
  (∀ (s : State) (c next : Channel) (r : Byte) (started : Micros) (timer : Timer), s.powered = true →
    s.adc.conversion = some ⟨c, started, timer⟩ →
    (c = .air ∧ next = .sense ∨ c = .ref ∧ next = .spare ∨ c = .spare ∧ next = .fuel ∨
      c = .sense ∧ next = .ref ∧ s.chk.phase ≠ .driven) →
    ∃ q, exec (.conversionComplete r) s = .next { s with toPanel := q } ∧
      q.adc = { s.adc with
        readings := s.adc.readings.set c (some r)
        analog := s.adc.analog.set c r
        conversion := some ⟨next, s.pcu.timebase, some 2000⟩
        airTemp := if c = .air then some (curveValue s.nvs.calibration.airCurve r.toNat) else s.adc.airTemp } ∧
      WarningsJudged { s.toPanel with adc := q.adc }.withFaults q) ∧
  ∀ (s : State) (sd : Sender), s.powered = true → (s.adc.faults.get sd).persistence.isSome = true →
    ∃ q, exec (.persistenceExpiry sd) s = .next { s with toPanel := q } ∧
      WarningsJudged { s.toPanel with adc := { s.adc with faults := s.adc.faults.set sd ⟨true, none, 0⟩ } }.withFaults q ∧
      (s.nvs.recoveryDone = true → q.chk.faultIndication = true)

/-! ### Gauges and the check -/

/-- REFRESH_EXPIRY: a gauge whose Phase moves and whose Hold is NONE moves toward Target by at most the step of R75
when Target lies outside the deadband of R75; every other gauge keeps its Current; Current stays within 0 to 767. A
SWEEP_UP turns to SWEEP_DOWN when every gauge that sweeps up is at 767, a SWEEP_DOWN within the deadband of its Target
is TRACKING, a PARKING at 0 is PARKED, and every other Phase stands. Outside SHUTDOWN the refresh reaches the gauges
and the check alone, and starts its timer again. The working calibration is taken at the refresh (R90). R74's words
for a pointer that moves are read as R76's test (assumption 40). -/
def Obligations.ARefreshMovesTheGauges : Prop :=
  ∀ s : State, s.powered = true → s.gdr.refreshTimer.isSome = true →
    ∃ q, exec .refreshExpiry s = .next { s with toPanel := q } ∧
      (s.pmc.mode ≠ .shutdown → q = { s.toPanel with gdr := q.gdr, chk := q.chk } ∧
        q.gdr.refreshTimer = some 15625) ∧
      ∀ (g : Gauge) (r : GaugeRecord) (target : Nat), r = s.gdr.gauges.get g →
        target = phaseTarget (trackingValue (takeGaugeCalibration s.toPanel) g) r.phase →
        (r.hold = .none → ∀ d step : Nat,
          (match r.phase with
            | .tracking => d = s.nvs.calibration.gaugeDeadband.get g ∧ step = s.nvs.calibration.gaugeSlew.get g
            | .sweepUp | .sweepDown => d = 0 ∧ step = 16
            | .parking => d = 0 ∧ step = max (s.nvs.calibration.gaugeSlew.get g) 8
            | .parked | .disabled => False) →
          ((q.gdr.gauges.get g).current : Int) =
            if (d : Int) < |(target : Int) - r.current| then
              r.current + (if r.current < target then 1 else -1) * min |(target : Int) - r.current| step
            else r.current) ∧
        ((r.hold ≠ .none ∨ r.phase = .parked ∨ r.phase = .disabled) → (q.gdr.gauges.get g).current = r.current) ∧
        (r.current ≤ 767 → target ≤ 767 → (q.gdr.gauges.get g).current ≤ 767) ∧
        (match r.phase with
          | .tracking | .parked | .disabled => (q.gdr.gauges.get g).phase = r.phase
          | .sweepUp =>
            ((∀ h, (s.gdr.gauges.get h).phase = .sweepUp → (q.gdr.gauges.get h).current = 767) →
              (q.gdr.gauges.get g).phase = .sweepDown) ∧
            ((∃ h, (s.gdr.gauges.get h).phase = .sweepUp ∧ (q.gdr.gauges.get h).current ≠ 767) →
              (q.gdr.gauges.get g).phase = .sweepUp)
          | .sweepDown => (q.gdr.gauges.get g).phase =
            if |(target : Int) - (q.gdr.gauges.get g).current| ≤ (s.nvs.calibration.gaugeDeadband.get g : Int)
            then .tracking else .sweepDown
          | .parking => (q.gdr.gauges.get g).phase =
            if (q.gdr.gauges.get g).current = 0 then .parked else .parking)

/-- REFRESH_EXPIRY outside SHUTDOWN: a gauge whose Hold is NONE has the two duties of the table of R88 for the
electrical angle of R87, or both coils off in PARKED and DISABLED. A REQUESTED hold is granted: the coils go off, and
when the check waits for that gauge its sin coil is driven at full duty from now. A GRANTED hold's coils are left. -/
def Obligations.ARefreshSetsTheCoilDuties : Prop :=
  ∀ s : State, s.powered = true → s.gdr.refreshTimer.isSome = true → s.pmc.mode ≠ .shutdown →
    ∃ q, exec .refreshExpiry s = .next { s with toPanel := q } ∧
      (∀ (g : Gauge) (theta k r : Nat), (s.gdr.gauges.get g).hold = .none →
        theta = ((q.gdr.gauges.get g).current + s.nvs.calibration.elecOffset.get g) % 1024 →
        k = theta / 256 → r = theta % 256 →
        ((q.gdr.gauges.get g).phase = .parked ∨ (q.gdr.gauges.get g).phase = .disabled →
          (q.gdr.gauges.get g).duty = ⟨0, 0⟩) ∧
        ((q.gdr.gauges.get g).phase ≠ .parked → (q.gdr.gauges.get g).phase ≠ .disabled →
          (k = 0 → (q.gdr.gauges.get g).duty = ⟨sine r, sine (256 - r)⟩) ∧
          (k = 1 → (q.gdr.gauges.get g).duty = ⟨sine (256 - r), -(sine r)⟩) ∧
          (k = 2 → (q.gdr.gauges.get g).duty = ⟨-(sine r), -(sine (256 - r))⟩) ∧
          (k = 3 → (q.gdr.gauges.get g).duty = ⟨-(sine (256 - r)), sine r⟩))) ∧
      (∀ g, (s.gdr.gauges.get g).hold = .requested → (q.gdr.gauges.get g).hold = .granted ∧
        (s.chk.phase = .holdWait ∧ s.chk.currentItem = some (.coil g .sin) →
          (q.gdr.gauges.get g).duty = ⟨255, 0⟩ ∧
          q.chk = { s.chk with phase := .driven, driveTime := some s.pcu.timebase }) ∧
        (¬(s.chk.phase = .holdWait ∧ s.chk.currentItem = some (.coil g .sin)) →
          (q.gdr.gauges.get g).duty = ⟨0, 0⟩)) ∧
      (∀ g, (s.gdr.gauges.get g).hold = .granted →
        (q.gdr.gauges.get g).hold = .granted ∧ (q.gdr.gauges.get g).duty = (s.gdr.gauges.get g).duty) ∧
      ((∀ g, (s.gdr.gauges.get g).hold = .requested →
          ¬(s.chk.phase = .holdWait ∧ s.chk.currentItem = some (.coil g .sin))) → q.chk = s.chk)

/-- A gauge curve with x strictly rising and angles never falling gives an angle between its first and its last
point, and never falls as x rises. -/
def Obligations.AGaugeCurveNeverFalls : Prop :=
  ∀ (c : Curve) (x y : Int), strictlyRising (c.map Prod.fst) = true → neverFalling (c.map Prod.snd) = true →
    x ≤ y → curveValue c x ≤ curveValue c y ∧
      ∀ first last, c.head? = some first → c.getLast? = some last →
        first.2 ≤ curveValue c x ∧ curveValue c x ≤ last.2

/-- DRIVER_OVERLOAD: the item's result becomes SHORT with Cause OVERLOAD, no other item's result changes, a lamp is
Blocked or a gauge DISABLED with its coils off unless the check holds them, the fault indication is TRUE once recovery
is done, and CHECK goes to all links. When the item is under test its step ends: the check goes on to the next item,
or is DONE after the last. It is said of any output, driven or not (assumption 20). That the fault indication stands
until recovery is done is the model's choice (assumption 49). -/
def Obligations.AnOverloadRecordsAShort : Prop :=
  ∀ (s : State) (i : CheckItem), s.powered = true →
    ∃ q, exec (.driverOverload i) s = .next { s with toPanel := q } ∧
      q = { s.toPanel with chk := q.chk, wrc := q.wrc, gdr := q.gdr, lnk := q.lnk } ∧
      q.chk.item i = ⟨.short, none, .overload⟩ ∧ (∀ j, j ≠ i → q.chk.item j = s.chk.item j) ∧
      q.chk.faultCount = q.chk.countFaults ∧ q.chk.faultIndication = (if s.nvs.recoveryDone then true else s.chk.faultIndication) ∧ (∀ l, Noticed .check l q) ∧
      (match i with
        | .lamp l => (q.wrc.lamps.get l).blocked = true
        | .coil g c => (q.gdr.gauges.get g).faulted.get c = true ∧ (q.gdr.gauges.get g).phase = .disabled) ∧
      (underTest s.toPanel i = false →
        q.chk.state = s.chk.state ∧ q.chk.currentItem = s.chk.currentItem ∧ q.chk.phase = s.chk.phase ∧
          q.chk.driveTime = s.chk.driveTime ∧
          (∀ h, (∀ c, i ≠ .coil h c) → q.gdr.gauges.get h = s.gdr.gauges.get h) ∧
          ∀ g c, i = .coil g c → (q.gdr.gauges.get g).duty =
            (if (s.gdr.gauges.get g).hold = .granted then (s.gdr.gauges.get g).duty else ⟨0, 0⟩)) ∧
      (s.chk.phase = .driven → s.chk.currentItem = some i →
        q.chk.currentItem = allItems[itemIndex i + 1]? ∧
        (match q.chk.currentItem with
          | none => q.chk.state = .done ∧ q.chk.phase = .none
          | some (.coil _ .sin) => q.chk.state = s.chk.state ∧ q.chk.phase = .holdWait
          | some _ => q.chk.state = s.chk.state ∧ q.chk.phase = .driven ∧ q.chk.driveTime = some s.pcu.timebase) ∧
        ∀ g c, i = .coil g c → (q.gdr.gauges.get g).duty = (match c with | .sin => ⟨0, 255⟩ | .cos => ⟨0, 0⟩))

/-- CONVERSION_COMPLETE of SENSE while an item is driven: a conversion that began less than 8,000 µs after the drive
ends nothing; a later one gives the item its result, and the check goes on to the next item or, after the last, is
DONE with CHECK to all links. A conversion that began before the drive, by a difference modulo 2^24 in the timebase's
upper half (assumption 13), ends nothing either. The result reaches its owner: SHORT sets a lamp's Blocked, NORMAL
clears it and OPEN leaves it; a coil joins its gauge's FaultedCoils and disables the gauge, or leaves them; after sin
the cos coil is driven at full duty. After cos the hold is released: a DISABLED gauge with no faulted coil tracks in
RUN and parks in SHUTDOWN, and the duties are set from Current at once, by the ElecOffset that the Gauge Driver holds
(assumption 41), or off. The next gauge's hold is requested. The warnings and the lamps are judged on the result. That
the players follow once every level is judged is the model's choice (assumption 14). That the fault indication stands
until recovery is done is the model's choice (assumption 49). -/
def Obligations.ASenseReadingEndsTheStep : Prop :=
  ∀ (s : State) (i : CheckItem) (r : Byte) (drive started : Micros) (timer : Timer), s.powered = true →
    s.adc.conversion = some ⟨.sense, started, timer⟩ → s.chk.phase = .driven → s.chk.currentItem = some i →
    s.chk.driveTime = some drive →
    ∃ p q, exec (.conversionComplete r) s = .next { s with toPanel := q } ∧
      WarningsJudged { s.toPanel with adc := q.adc }.withFaults p ∧
      q = { s.toPanel with adc := q.adc, chk := q.chk, wrc := q.wrc, gdr := q.gdr, lnk := q.lnk } ∧
      q.adc = { s.adc with
        readings := { s.adc.readings with sense := some r }
        analog := { s.adc.analog with sense := r }
        conversion := some ⟨.ref, s.pcu.timebase, some 2000⟩ } ∧
      (∀ j, j ≠ i → q.chk.item j = s.chk.item j) ∧
      ((elapsed drive started < 8000 ∨ 8388608 ≤ elapsed drive started) → q = p) ∧
      (8000 ≤ elapsed drive started → elapsed drive started < 8388608 → ∀ fault : Bool,
        fault = decide (r.toNat ≤ 19 ∨ 239 < r.toNat) →
        q.chk.item i = ⟨if r.toNat ≤ 19 then .openCircuit else if r.toNat ≤ 239 then .normal else .short,
          some r, .step⟩ ∧
        q.chk.faultCount = q.chk.countFaults ∧ q.chk.currentItem = allItems[itemIndex i + 1]? ∧
        q.chk.faultIndication = (if s.nvs.recoveryDone then faultTerms q else s.chk.faultIndication) ∧
        (∀ (lamp : Lamp) (tested : LampState), i = .lamp lamp →
          tested = { p.wrc.lamps.get lamp with
            blocked := if r.toNat ≤ 19 then (s.wrc.lamps.get lamp).blocked else decide (239 < r.toNat) } →
          JudgedFrom { p.wrc with lamps := p.wrc.lamps.set lamp tested } q) ∧
        (∀ g c, i = .coil g c → JudgedFrom p.wrc q) ∧
        q.gdr = { s.gdr with gauges := q.gdr.gauges } ∧
        (∀ g, (∀ c, i ≠ .coil g c) → q.gdr.gauges.get g =
          { s.gdr.gauges.get g with hold :=
              if q.chk.currentItem = some (.coil g .sin) ∧ (s.gdr.gauges.get g).hold = .none then .requested
              else (s.gdr.gauges.get g).hold }) ∧
        (∀ g, i = .coil g .sin → q.gdr.gauges.get g =
          { s.gdr.gauges.get g with
            faulted := { (s.gdr.gauges.get g).faulted with sin := fault }
            phase := if fault then .disabled else (s.gdr.gauges.get g).phase, duty := ⟨0, 255⟩ }) ∧
        (∀ (g : Gauge) (old new : GaugeRecord), i = .coil g .cos → old = s.gdr.gauges.get g →
          new = q.gdr.gauges.get g →
          new = { old with
            faulted := { old.faulted with cos := fault }, hold := .none, phase := new.phase
            duty := match new.phase with
              | .parked | .disabled => ⟨0, 0⟩
              | _ => coilDuties (electricalAngle old.current (s.gdr.calibration.elecOffset.get g)) } ∧
          (fault = true → new.phase = .disabled) ∧
          (fault = false → (old.phase ≠ .disabled ∨ old.faulted.sin = true) → new.phase = old.phase) ∧
          (fault = false → old.phase = .disabled → old.faulted.sin = false →
            (s.pmc.mode = .run → new.phase = .tracking) ∧ (s.pmc.mode = .shutdown → new.phase = .parking))) ∧
        (match q.chk.currentItem with
          | none => q.chk.state = .done ∧ q.chk.phase = .none ∧ ∀ l, Noticed .check l q
          | some (.coil _ .sin) => q.chk.state = s.chk.state ∧ q.chk.phase = .holdWait
          | some _ => q.chk.state = s.chk.state ∧ q.chk.phase = .driven ∧ q.chk.driveTime = some s.pcu.timebase))

/-! ### Warnings and chimes -/

/-- RESOUND_EXPIRY with the kind's timer running: while its condition is present, or for a latching kind not yet
acknowledged, sounder F is pending again; otherwise the entry keeps nothing pending for it, and leaves the list when
R103's conditions hold. -/
def Obligations.AResoundExpirySoundsAgain : Prop :=
  ∀ (s : State) (k : WarningKind) (e : WarningEntry), s.powered = true → s.wrc.entry k = some e →
    e.resound.isSome = true →
    ∃ q, exec (.resoundExpiry k) s = .next { s with toPanel := q } ∧ WarningsOnly s.toPanel q ∧
      ((e.conditionPresent = true ∨ (isLatching k = true ∧ e.acked.front = false)) →
        q.wrc.entry k = some { e with
          pending := { e.pending with front := true }, acked := { e.acked with front := false }
          resound := none } ∧ q.lnk = s.lnk) ∧
      (e.conditionPresent = false → (isLatching k = false ∨ e.acked.front = true) →
        q.wrc.entry k = (if ({ e with resound := none } : WarningEntry).finished then none
          else some { e with resound := none }))

/-- STRIKE_END, GAP_END and REST_END: a strike that ends inside its pattern goes on while its kind is selected and
gives way to REST or IDLE otherwise; a ONCE pattern that ends leaves Pending; a gap is followed by the pattern's next
strike; REST is followed by the selection's pattern from its first step. A strike whose entry was removed during it
ends in REST or IDLE, whatever its kind's entry has become, and changes nothing else; that it goes no further even
when its kind has been raised afresh is the model's reading (assumption 42). -/
def Obligations.ThePlayersFollowTheirPatterns : Prop :=
  ∀ (s : State) (sd : Sounder), s.powered = true →
    (∀ k step, (s.wrc.players.get sd).state = .strike k step → s.wrc.selection sd = some k →
      (isContinuous k = true ∨ step < patternLength (kindPattern k)) →
      exec (.strikeEnd sd) s =
        .next { s with wrc := s.wrc.setPlayer sd (playStep k (if patternLength (kindPattern k) ≤ step then 1 else step + 1)) }) ∧
    (∀ k step, (s.wrc.players.get sd).state = .strike k step → s.wrc.selection sd ≠ some k →
      (isContinuous k = true ∨ step < patternLength (kindPattern k) ∨ s.wrc.pendingFor k sd = false) →
      exec (.strikeEnd sd) s =
        .next { s with
          wrc := s.wrc.setPlayer sd
            (match s.wrc.selection sd with | some _ => ⟨.rest, some 150000⟩ | none => ⟨.idle, none⟩) }) ∧
    (∀ k step, (s.wrc.players.get sd).state = .ending k step →
      exec (.strikeEnd sd) s =
        .next { s with
          wrc := s.wrc.setPlayer sd
            (match s.wrc.selection sd with | some _ => ⟨.rest, some 150000⟩ | none => ⟨.idle, none⟩) }) ∧
    (∀ k step e, (s.wrc.players.get sd).state = .strike k step → isContinuous k = false →
      patternLength (kindPattern k) ≤ step → s.wrc.entry k = some e → e.pending.get sd = true →
      ∃ q, exec (.strikeEnd sd) s = .next { s with toPanel := q } ∧ WarningsOnly s.toPanel q ∧
        q.wrc.players.get sd =
          (match q.wrc.selection sd with | some _ => ⟨.rest, some 150000⟩ | none => ⟨.idle, none⟩) ∧
        ∀ e' : WarningEntry,
          e' = { e with
            pending := e.pending.set sd false
            resound := if sd = .front ∧ (resoundInterval k).isSome then resoundInterval k else e.resound } →
          q.wrc.entry k = if e'.finished then none else some e') ∧
    (∀ k step, (s.wrc.players.get sd).state = .gap k step →
      exec (.gapEnd sd) s =
        .next { s with wrc := s.wrc.setPlayer sd (playStep k (if patternLength (kindPattern k) ≤ step then 1 else step + 1)) }) ∧
    ((s.wrc.players.get sd).state = .rest →
      exec (.restEnd sd) s =
        .next { s with
          wrc := s.wrc.setPlayer sd
            (match s.wrc.selection sd with | some k => playStep k 1 | none => ⟨.idle, none⟩) })

/-- LINK_GRACE_EXPIRY, BULB_CHECK_EXPIRY and BELT_TIMER_EXPIRY end the grace, the bulb check and the belt window;
every STATE kind is then judged, its entry follows its level, and the players and the lamps follow the list. That the
players follow once every level is judged is the model's choice (assumption 14). -/
def Obligations.TheRunWindowsClose : Prop :=
  ∀ s : State, s.powered = true →
    (s.wrc.linkGraceTimer.isSome = true → ∃ q, exec .linkGraceExpiry s = .next { s with toPanel := q } ∧
      WarningsJudged { s.toPanel with wrc := { s.wrc with linkGraceTimer := none } } q) ∧
    (s.pmc.bulbCheckTimer.isSome = true → ∃ q, exec .bulbCheckExpiry s = .next { s with toPanel := q } ∧
      WarningsJudged { s.toPanel with
        pmc := { s.pmc with bulbCheckTimer := none }, wrc := { s.wrc with bulbCheck := false } } q) ∧
    (s.pmc.beltTimer.isSome = true → ∃ q, exec .beltTimerExpiry s = .next { s with toPanel := q } ∧
      WarningsJudged { s.toPanel with
        pmc := { s.pmc with beltTimer := none }, wrc := { s.wrc with beltWindow := false } } q)

/-! ### The clock and the store -/

/-- ONE_SECOND_EVENT: the clock counts, the RUNNING records gain a second and the instant window rotates in RUN, and
the day timer counts; its roll-over adds a day, grades the items and queues the day job. That an entry raised at the
roll-over reads the new second is the model's choice (assumption 48). That the players follow once every level is
judged is the model's choice (assumption 14). -/
def Obligations.AOneSecondEvent : Prop :=
  ∀ (s : State) (v : Svm) (t : Trc), s.powered = true →
    v = { s.svm with
      timeOfDay := if s.svm.timeOfDay < 86399 then s.svm.timeOfDay + 1 else 0, secondDivider := some 1000000 } →
    t = (if s.pmc.mode = .run then
        { s.trc with
          trips := PerTrip.of fun i =>
            if (s.trc.trips.get i).held then s.trc.trips.get i
            else { s.trc.trips.get i with counts :=
              ⟨min 9999999 (s.trc.trips.get i).counts.distance, min 9999999 (s.trc.trips.get i).counts.fuel,
               min 3599999 ((s.trc.trips.get i).counts.runTime + 1)⟩ }
          ring := s.trc.ring.drop 1 ++ [s.trc.current]
          current := ⟨0, 0⟩ }
      else s.trc) →
    (s.svm.dayTimer < 86399 →
      exec .oneSecondEvent s = .next { s with svm := { v with dayTimer := s.svm.dayTimer + 1 }, trc := t }) ∧
    (86399 ≤ s.svm.dayTimer → 65535 ≤ s.svm.dayCount →
      exec .oneSecondEvent s = .next { s with svm := { v with dayTimer := 0 }, trc := t }) ∧
    (86399 ≤ s.svm.dayTimer → s.svm.dayCount < 65535 → s.nvs.recoveryDone = true →
      ∃ q, exec .oneSecondEvent s = .next { s with toPanel := q } ∧ q.trc = t ∧ q.nvs.cells = s.nvs.cells ∧
        q.svm = { v with dayTimer := 0, dayCount := s.svm.dayCount + 1, items := q.svm.items } ∧ q.itemsGraded ∧
        JudgedFrom s.wrc q ∧ q.pcu = s.pcu ∧ q.dfa = s.dfa ∧ q.gdr = s.gdr ∧ q.chk = s.chk ∧ q.pmc = s.pmc ∧
        (s.nvs.jobCount ≤ 5 → s.pmc.supplyLow = false →
          (∀ j ∈ s.nvs.queue, j.data.covers (.cells 32 (dayWords (s.svm.dayCount + 1))) = false) →
          q.nvs.Holds (.cells 32 (dayWords (s.svm.dayCount + 1)))))

/-- CELL_PROGRAMMED: the job's word is in its cell and no other cell changes; a job with cells left goes on after
another 10 ms, unless it is NORMAL and an URGENT job waits, when it is suspended at its next cell; an odometer job's
last cell moves the ring pointer to its slot. -/
def Obligations.ACellIsProgrammed : Prop :=
  ∀ (s : State) (j : WriteJob) (k first : Nat), s.powered = true → s.nvs.inFlight = some j → j.progress = some k →
    first = (match j.data with | .odometer _ => 2 * ((s.nvs.ringPointer + 1) % 16) | .cells f _ => f) →
    first ≤ k → k < first + j.data.words.length → Memory.wf s.nvs.cells = true →
    ∃ q, exec .cellProgrammed s = .next { s with toPanel := q } ∧
      Memory.read q.nvs.cells k = j.data.words.getD (k - first) 0xFFFF ∧
      (∀ a, a ≠ k → Memory.read q.nvs.cells a = Memory.read s.nvs.cells a) ∧
      (k + 1 < first + j.data.words.length →
        (j.jobClass = .urgent ∨ s.nvs.draining = true ∨ ∀ u ∈ s.nvs.queue, u.jobClass = .normal) →
        q = { s.toPanel with nvs := { s.nvs with
          cells := q.nvs.cells, inFlight := some { j with progress := some (k + 1) }, cellTimer := some 10000 } }) ∧
      (k + 1 < first + j.data.words.length → j.jobClass = .normal → s.nvs.draining = false →
        (∃ u ∈ s.nvs.queue, u.jobClass = .urgent) →
        { j with progress := some (k + 1) } ∈ q.nvs.queue ∧ q = { s.toPanel with nvs := q.nvs } ∧
          ∃ u ∈ s.nvs.queue, u.jobClass = .urgent ∧ ∃ k', q.nvs.inFlight = some { u with progress := k' }) ∧
      (∀ value, j.data = .odometer value → k + 1 = first + 2 → s.nvs.draining = false →
        q = { s.toPanel with nvs := q.nvs } ∧ q.nvs.ringPointer = (s.nvs.ringPointer + 1) % 16)

/-- CELL_PROGRAMMED at the last cell of a bank switch: the bank is active and its cells are the working calibration,
CAL_FAULT is cleared, Rd and Rf are 0 and E is clamped while the odometer and the trip records stand, no kind that
WarningEnable now disables has an entry, and STORE goes to SERVICE. -/
def Obligations.ABankSwitchCompletes : Prop :=
  ∀ (s : State) (j : WriteJob) (bank : Bank) (check : StoreWord), s.powered = true → s.nvs.inFlight = some j →
    j.data = .cells 88 [match bank with | .a => 0x00A5 | .b => 0x00B5, check] → j.progress = some 89 →
    s.nvs.draining = false → Memory.wf s.nvs.cells = true →
    ∃ q, exec .cellProgrammed s = .next { s with toPanel := q } ∧
      q.nvs.activeBank = some bank ∧ q.nvs.calibration = decodeBank (bankWords s.nvs.cells bank) ∧
      q.nvs.calFault = false ∧ q.nvs.switchInFlight = false ∧
      q.dfa = { s.dfa with
        rd := 0, rf := 0
        estimate := s.dfa.estimate.map (min (decodeBank (bankWords s.nvs.cells bank)).tankCapacity) } ∧
      q.trc.trips = s.trc.trips ∧ q.pcu = s.pcu ∧ q.gdr = s.gdr ∧
      (∀ e ∈ q.wrc.entries, kindEnabled q.nvs.calibration.warningEnable e.kind = true) ∧ Noticed .store .service q

/-! ### Resets and recovery -/

/-- KEEP_ALIVE_LOST stops the part, and the cell being programmed holds an unknown value, any value at all.
POWER_ON_RESET then takes every block to its power-on values with the straps sampled, but for what recovery reads from
the cells, which it leaves alone: the odometer, E, the trip records, the day count, the service items and the
calibration. The format code and the day count are written when they were not good. The unknown value is free, and a
part without keep-alive is the model's reading (assumptions 2 and 5). The pins keep their levels (assumption 4), and the
gauge driver holds the calibration recovered (assumption 41). -/
def Obligations.APowerOnReset : Prop :=
  (∀ s : State, s.powered = true → s.nvs.inFlight = none →
    exec .keepAliveLost s = .next { s with powered := false }) ∧
  (∀ (s : State) (j : WriteJob) (k : Nat), s.powered = true → s.nvs.inFlight = some j → j.progress = some k →
    exec .keepAliveLost s = .next { s with
      powered := false
      nvs := { s.nvs with
        cells := Memory.write k (Config.unknownCell s.nvs.unknownCount) s.nvs.cells
        unknownCount := s.nvs.unknownCount + 1 } }) ∧
  ∀ (s : State) (units rear good : Bool), s.powered = false → good = formatMatches s.nvs.cells →
    ∃ q, exec (.powerOnReset units rear) s = .next { s with toPanel := q } ∧ q.powered = true ∧
      q.pcu = Pcu.reset ∧ q.sws = Sws.reset s.sws.pins ∧ q.adc = Adc.reset s.adc.analog ∧
      q.dfa = { Dfa.reset with
        odometer := ((recoverRing good s.nvs.cells).map Prod.fst).getD 0
        odoLost := (recoverRing good s.nvs.cells).isNone
        estimate := (recoverSnapshot good s.nvs.cells).1.map (min q.nvs.calibration.tankCapacity) } ∧
      q.trc = { Trc.reset with trips := (recoverSnapshot good s.nvs.cells).2, lastRange := q.trc.lastRange } ∧
      q.gdr = { Gdr.reset with calibration := q.nvs.calibration.forGauges } ∧ q.wrc = Wrc.reset ∧
      q.svm = { Svm.reset with
        items := q.svm.items
        dayCount := (recoverDay good s.nvs.cells).getD (fallbackDay good s.nvs.cells) } ∧
      (∀ i, { q.svm.items.get i with state := .inactive } =
        { (recoverItem (rawItem good s.nvs.cells i) (q.dfa.odometer / 10) q.svm.dayCount).1 with
          state := .inactive }) ∧ q.itemsGraded ∧
      q.chk = { Chk.reset with faultIndication := faultTerms q } ∧ q.lnk = Lnk.reset ∧
      q.pmc = Pmc.reset units rear ∧
      q.nvs = { Nvs.reset s.nvs.cells s.nvs.unknownCount with
        queue := q.nvs.queue, inFlight := q.nvs.inFlight, cellTimer := q.nvs.cellTimer, recoveryDone := true
        formatGood := good, odometerLock := good && Memory.read s.nvs.cells 90 == 0x00C3
        ringPointer := ((recoverRing good s.nvs.cells).map Prod.snd).getD 15
        activeBank := recoverBank good s.nvs.cells
        calibration := calibrationOf s.nvs.cells (recoverBank good s.nvs.cells)
        calFault := (recoverBank good s.nvs.cells).isNone } ∧
      (good = false → q.nvs.Holds (.cells 91 [0x2610])) ∧
      (recoverDay good s.nvs.cells = none → q.nvs.Holds (.cells 32 (dayWords q.svm.dayCount)))

/-- Recovery of a part with its format code takes the largest value among the good ring records, and the lowest slot
that holds it; it finds none exactly when no record is good. -/
def Obligations.TheRingRecoversTheLargestRecord : Prop :=
  ∀ cells : List (Nat × StoreWord),
    (∀ v slot, recoverRing true cells = some (v, slot) ↔
      (slot < 16 ∧ ringSlotValue cells slot = some v ∧
        ∀ u w, u < 16 → ringSlotValue cells u = some w → w < v ∨ (w = v ∧ slot ≤ u))) ∧
    (recoverRing true cells = none ↔ ∀ u, u < 16 → ringSlotValue cells u = none)

/-- A service item written to its cells is recovered as it was, with no job, at every odometer within 65,536 km and day
count within 1,024 days of its last service. -/
def Obligations.AStoredServiceItemIsRecovered : Prop :=
  ∀ (cells : List (Nat × StoreWord)) (i : SlotId) (it : ServiceItem) (km day : Nat),
    it.labelCode ≤ 15 → it.intervalKm ≤ 65000 → it.intervalDays ≤ 1000 → it.lastKm ≤ km → it.lastDay ≤ day →
    km - it.lastKm < 65536 → day - it.lastDay < 1024 →
    (∀ k, k < 4 → Memory.read cells (64 + 4 * i.idx + k) = (itemWords it).getD k 0) →
    recoverItem (rawItem true cells i) km day = ({ it with state := .inactive }, false)

/-! ### Characters, messages and replies -/

/-- The code and the parameter characters of every request are read back as that request, with as many parameters as
its code carries. The characters of every reply are its status code, its data and a check, in this order, and sum to 0
modulo 256. -/
def Obligations.RequestsAndRepliesAreEncoded : Prop :=
  (∀ r : Request, requestOf (requestCode r) (requestParams r) = some r ∧
    paramCount (requestCode r) = some (requestParams r).length) ∧
  ∀ (status : Status) (data : List Byte),
    charSum (replyChars status data) = 0 ∧
      ∃ check : Byte, replyChars status data = BitVec.ofNat 8 status.code :: data ++ [check]

/-- The characters of a request's message, received one after another without noise on a ready link with no message in
progress, come to the request taken on that link, the presence timer started again. An ABSENT link is then PRESENT
first, with LINKS to the other links. That a request command hands over a good message is the model's choice
(assumption 7), and so is what the port holds between messages (assumption 12). That the players follow once every
level is judged is the model's choice (assumption 14). -/
def Obligations.AReceivedMessageIsTaken : Prop :=
  ∀ (l : Link) (r : Request) (s : State) (port : LinkPort), Ready l s → port = s.lnk.ports.get l →
    port.looking = true → port.receiveState = .idle → port.received = [] → port.checkSum = 0 →
    port.spoiled = false → port.gapTimer = none →
    (port.present = true →
      runCommands (receiveCommands l (messageChars r)) s =
        exec (requestCommand l r) (s.withPort l { port with presenceTimer := some 2000000 })) ∧
    (port.present = false → ∃ q,
      runCommands (receiveCommands l (messageChars r)) s = exec (requestCommand l r) { s with toPanel := q } ∧
      WarningsJudged (notifyOthers .links l
        (s.toPanel.withPort l { port with present := true, presenceTimer := some 2000000 })) q)

/-- CHARACTER_RECEIVED and the receiver: a clean mark character begins a message, of a known or an unknown code; a
clean data character with no message in progress is a character error; one that does not complete its message joins
it; a noisy one spoils it; a character whose stop bit reads 0 leaves the receiver waiting for RX to read 1, when it
looks again; a false start, and anything received while it does not look, changes nothing.
The receiver's looking for a start is the model's reading (assumptions 10 and 11).
A character that completes its message badly has it answered BAD_MESSAGE and counted, at once, after the reply that
stands, or as an overrun. A clean mark character ends the message in progress as its gap expiry does, and begins its
own. What the port holds between messages, and the count at the judgement, are the model's (assumptions 12 and 44). -/
def Obligations.CharactersAreFramed : Prop :=
  ∀ (s : State) (l : Link) (port : LinkPort), s.powered = true → port = s.lnk.ports.get l →
    (port.looking = false → ∀ samples, exec (.characterReceived l samples) s = .next s) ∧
    (∀ samples, majority samples 0 = true → exec (.characterReceived l samples) s = .next s) ∧
    exec (.falseStart l) s = .next s ∧
    exec (.rxReturnsToIdleLevel l) s = .next (s.withPort l { port with looking := true }) ∧
    (port.looking = true → port.receiveState = .idle → ∀ d : Byte,
      exec (.characterReceived l (cleanCharacter d true)) s = .next (s.withPort l { port with
          receiveState := if (paramCount d.toNat).isSome then .inMessage else .inUnknown
          received := [d], checkSum := d, spoiled := false, gapTimer := some 10000 }) ∧
      exec (.characterReceived l (cleanCharacter d false)) s =
        .next (s.withPort l { port with charErrors := min 255 (port.charErrors + 1) })) ∧
    (∀ samples c, port.looking = true → majority samples 0 = false → c = rxChar samples →
      (c.mark = false ∨ c.errored = true) → port.receiveState ≠ .idle → port.received.length < 16 →
      (port.receiveState = .inUnknown ∨
        ∃ code rest n, port.received = code :: rest ∧ paramCount code.toNat = some n ∧ rest.length < n) →
      exec (.characterReceived l samples) s = .next (s.withPort l { port with
          looking := !c.framing
          received := port.received ++ [c.data], checkSum := port.checkSum + c.data
          spoiled := port.spoiled || c.errored, gapTimer := some 10000
          charErrors := if c.errored then min 255 (port.charErrors + 1) else port.charErrors })) ∧
    (∀ samples, port.looking = true → majority samples 0 = false → (rxChar samples).errored = true →
      port.receiveState = .idle →
      exec (.characterReceived l samples) s = .next (s.withPort l { port with
          looking := !(rxChar samples).framing, charErrors := min 255 (port.charErrors + 1) })) ∧
    (∀ samples c code rest, port.looking = true → majority samples 0 = false → c = rxChar samples →
      (c.mark = false ∨ c.errored = true) → port.receiveState = .inMessage → port.received = code :: rest →
      paramCount code.toNat = some rest.length → rest.length < 15 →
      (port.spoiled = true ∨ c.errored = true ∨ port.checkSum + c.data ≠ 0) → ∀ ended : LinkPort,
      ended = { port with
        looking := !c.framing
        receiveState := .idle, received := [], checkSum := 0, spoiled := false, gapTimer := none
        charErrors := if c.errored then min 255 (port.charErrors + 1) else port.charErrors
        discardedMessages := min 255 (port.discardedMessages + 1) } →
      (Ready l s → exec (.characterReceived l samples) s =
        .next (s.answered l .badMessage [] (s.toPanel.withPort l ended))) ∧
      (port.reply.isSome = true → port.waiting = none → exec (.characterReceived l samples) s =
        .next (s.withPort l { ended with waiting := some .bad })) ∧
      (port.waiting.isSome = true → exec (.characterReceived l samples) s =
        .next (s.withPort l { ended with overruns := min 255 (port.overruns + 1) }))) ∧
    (∀ (d : Byte) (t : State), port.looking = true → port.receiveState ≠ .idle → port.gapTimer.isSome = true →
      exec (.gapTimerExpiry l) s = .next t →
      exec (.characterReceived l (cleanCharacter d true)) s = .next (t.withPort l { t.lnk.ports.get l with
        receiveState := if (paramCount d.toNat).isSome then .inMessage else .inUnknown
        received := [d], checkSum := d, spoiled := false, gapTimer := some 10000 }))

/-- GAP_TIMER_EXPIRY abandons a message of a known code and counts it; an unknown message is then complete, answered
UNKNOWN when its characters sum to 0, which makes its link PRESENT, and BAD_MESSAGE otherwise. PRESENCE_EXPIRY makes
the link ABSENT with LINKS to the other links, and on SERVICE clears the latch and the window's selection. REPLY_END
ends the reply, and a message that waits is then taken. The end of the reply of RESTART is RESTART_BEGIN (assumption
8). What the port holds between messages, and the count at the judgement, are the model's (assumptions 12 and 44).
That the players follow once every level is judged is the model's choice (assumption 14). -/
def Obligations.TheLinkTimersExpire : Prop :=
  ∀ (s : State) (l : Link) (port idle : LinkPort), s.powered = true → port = s.lnk.ports.get l →
    idle = { port with
      receiveState := .idle, received := [], checkSum := 0, spoiled := false, gapTimer := none } →
    (port.gapTimer.isSome = true → port.receiveState = .inMessage →
      exec (.gapTimerExpiry l) s = .next (s.withPort l { idle with
        discardedMessages := min 255 (port.discardedMessages + 1) })) ∧
    (port.gapTimer.isSome = true → port.receiveState = .inUnknown → Ready l s →
      ((port.spoiled = true ∨ port.checkSum ≠ 0) →
        exec (.gapTimerExpiry l) s = .next (s.answered l .badMessage [] (s.toPanel.withPort l { idle with
          discardedMessages := min 255 (port.discardedMessages + 1) }))) ∧
      (port.spoiled = false → port.checkSum = 0 → (∀ c ∈ port.received.head?, paramCount c.toNat = none) →
        ∃ q, exec (.gapTimerExpiry l) s = .next (s.answered l .unknown [] q) ∧
          (port.present = true → q = s.toPanel.withPort l { idle with presenceTimer := some 2000000 }) ∧
          (port.present = false → WarningsJudged (notifyOthers .links l
            (s.toPanel.withPort l { idle with present := true, presenceTimer := some 2000000 })) q))) ∧
    (port.presenceTimer.isSome = true → ∃ q, exec (.presenceExpiry l) s = .next { s with toPanel := q } ∧
      WarningsJudged
        (notifyOthers .links l { s.toPanel.withPort l { port with present := false, presenceTimer := none } with
          nvs := if l = .service then { s.nvs with unlockLatch := false, window := none } else s.nvs }) q) ∧
    (port.reply.isSome = true → ¬(l = .service ∧ s.lnk.restartArmed = true) →
      (port.waiting = none → exec (.replyEnd l) s = .next (s.withPort l { port with reply := none })) ∧
      (∀ r, port.waiting = some (.good r) → s.nvs.recoveryDone = true →
        exec (.replyEnd l) s =
          exec (requestCommand l r) (s.withPort l { port with reply := none, waiting := none })) ∧
      (port.waiting = some .bad → exec (.replyEnd l) s =
        .next (s.answered l .badMessage [] (s.toPanel.withPort l { port with reply := none, waiting := none }))) ∧
      (port.waiting = some .unknown → exec (.replyEnd l) s =
        .next (s.answered l .unknown [] (s.toPanel.withPort l { port with reply := none, waiting := none })))) ∧
    (port.reply.isSome = true → l = .service → s.lnk.restartArmed = true →
      exec (.replyEnd l) s = exec (.restartBegin s.pmc.strapUnits s.pmc.strapRear) s)

/-! ### Requests -/

/-- A link that R187's table does not list for a request answers NOT_PERMITTED and changes nothing else; a request that
arrives during a reply waits; a second one is dropped as an overrun.
That a request command hands over a good message is the model's choice (assumption 7). -/
def Obligations.RequestsAreTakenInTurn : Prop :=
  ∀ (s : State) (l : Link) (r : Request) (port : LinkPort) (refused : Prop), port = s.lnk.ports.get l →
    (refused ↔
      (l = .service ∧ (r = .call ∨ (∃ v, r = .overspeedSet v) ∨ (∃ v, r = .rearQuietSet v) ∨ ∃ v, r = .clockSet v)) ∨
      (l = .front ∧ ∃ v, r = .rearQuietSet v) ∨
      (l = .rear ∧ ((∃ v, r = .overspeedSet v) ∨ (∃ slot, r = .serviceReset slot) ∨ r = .checkStart)) ∨
      (l ≠ .service ∧ ((∃ slot item, r = .serviceWrite slot item) ∨ r = .storeOpen ∨ r = .storeStatus ∨
        (∃ region index mode, r = .windowSelect region index mode) ∨ r = .windowRead ∨ (∃ v, r = .windowWrite v) ∨
        (∃ bank, r = .bankSwitch bank) ∨ (∃ v, r = .odometerSet v) ∨ r = .restart))) →
    (permitted l r = false ↔ refused) ∧
    (Ready l s → refused → exec (requestCommand l r) s = .next (s.answered l .notPermitted [] s.toPanel)) ∧
    (s.powered = true → port.reply.isSome = true → port.waiting = none →
      exec (requestCommand l r) s = .next (s.withPort l { port with waiting := some (.good r) })) ∧
    (s.powered = true → port.waiting.isSome = true →
      exec (requestCommand l r) s = .next (s.withPort l { port with overruns := min 255 (port.overruns + 1) }))

/-- The requests that only read: each answers OK with its data on every link, STORE_STATUS on SERVICE, and changes
nothing but the reply; a TRIP_READ of an index above 3 answers BAD_VALUE.
The layout of the replies that R198 does not list is the model's (assumption 22). -/
def Obligations.ReadsChangeNothingElse : Prop :=
  ∀ (s : State) (l : Link), Ready l s →
    exec (.presence l) s = .next (s.answered l .ok
      (char1 (match s.pmc.mode with | .startup => 0 | .run => 1 | .shutdown => 2 | .standby => 3) ++
        char1 ((if (s.lnk.ports.get l).noticeSet = 0 then 0 else 1) +
          (if (s.lnk.ports.get l).noticeSet &&& (s.lnk.ports.get l).noticeMask = 0 then 0 else 2))) s.toPanel) ∧
    exec (.clockRead l) s = .next (s.answered l .ok
      (char3 s.svm.timeOfDay ++ char1 (if s.svm.clockSet then 1 else 0) ++ char3 s.svm.dayTimer ++
        char2 s.svm.dayCount) s.toPanel) ∧
    exec (.odometerRead l) s = .next (s.answered l .ok
      (char3 (if s.pmc.imperial then roundDiv (s.dfa.odometer * 10 * 100000) 1609344 else s.dfa.odometer) ++
        char1 ((if s.dfa.odoLost then 1 else 0) + (if s.pmc.imperial then 2 else 0))) s.toPanel) ∧
    exec (.identityRead l) s = .next (s.answered l .ok
      ((List.range 16).flatMap fun i => char2 (s.nvs.readCell (416 + i)).toNat) s.toPanel) ∧
    exec (.valuesRead l) s = .next (s.answered l .ok (valuesData s.toPanel) s.toPanel) ∧
    (∃ data, exec (.warningsRead l) s = .next (s.answered l .ok data s.toPanel) ∧
      data.length = 12 + 5 * s.wrc.entries.length ∧
      data = char1 s.wrc.entries.length ++
        s.wrc.entries.flatMap (fun e => char1 (kindNumber e.kind) ++
          char1 (e.conditionPresent.toNat + 2 * e.pending.front.toNat + 4 * e.pending.rear.toNat +
            8 * e.acked.front.toNat + 16 * e.acked.rear.toNat + 32 * e.resound.isSome.toNat) ++ char3 e.raisedAt) ++
        char1 (playerCode s.wrc.players.front.state) ++ char1 (servedCode s.wrc.players.front.state) ++
        char1 (playerCode s.wrc.players.rear.state) ++ char1 (servedCode s.wrc.players.rear.state) ++
        char2 (maskOf (allLamps.map fun l => (s.wrc.lamps.get l).output)) ++
        char2 (maskOf (allLamps.map fun l => (s.wrc.lamps.get l).blocked)) ++
        char1 s.wrc.rearQuiet.toNat ++ char2 s.wrc.overspeedSetpoint) ∧
    exec (.serviceRead l) s = .next (s.answered l .ok (serviceData s.toPanel) s.toPanel) ∧
    exec (.checkRead l) s = .next (s.answered l .ok (checkData s.toPanel) s.toPanel) ∧
    (∀ (i : TripId) (index : Byte) (r : TripRecord) (destination remaining : Option Nat) (armed : Bool),
      index.toNat = i.idx → r = s.trc.trips.get i →
      destination = (if i = .journey then s.trc.destinationKm else none) →
      remaining = destination.map (fun km => km * 100 - r.counts.distance) →
      armed = (decide (i = .journey) && s.trc.arrivalArmed) →
      ∃ data, exec (.tripRead l index) s = .next (s.answered l .ok data s.toPanel) ∧ data.length = 31 ∧
        data = char1 i.idx ++
          char1 (r.held.toNat + 2 * r.previous.isSome.toNat + 4 * destination.isSome.toNat + 8 * armed.toNat +
            16 * s.pmc.imperial.toNat) ++
          char3 (duReply s.toPanel r.counts.distance) ++ char3 (mlReply s.toPanel r.counts.fuel) ++
          char3 r.counts.runTime ++
          (match r.previous with
            | none => List.replicate 9 0xFF
            | some c => char3 (duReply s.toPanel c.distance) ++ char3 (mlReply s.toPanel c.fuel) ++ char3 c.runTime) ++
          char2? ((averageSpeed r.counts).map (kmReply s.toPanel)) ++
          char2? (if s.pmc.imperial then averageEconomy r.counts else averageConsumption r.counts) ++
          char2? (destination.map (kmReply s.toPanel)) ++ char3? (remaining.map (duReply s.toPanel)) ++
          char2? (if i = .journey then eta s.trc else none)) ∧
    (∀ index : Byte, 4 ≤ index.toNat →
      exec (.tripRead l index) s = .next (s.answered l .badValue [] s.toPanel)) ∧
    (l = .service → exec (.storeStatus l) s = .next (s.answered l .ok (storeData s.toPanel) s.toPanel))

/-- The average speed of R60: absent below 60 s of run time, and otherwise the quotient Distance × 360 / RunTime
rounded as R1 states, at most 2999. -/
def Obligations.TheAverageSpeedIsRounded : Prop :=
  ∀ c : TripCounts,
    (c.runTime < 60 → averageSpeed c = none) ∧
    (60 ≤ c.runTime → ∃ v, averageSpeed c = some v ∧ v ≤ 2999 ∧
      (v < 2999 → 2 * v * c.runTime ≤ 720 * c.distance + c.runTime ∧
        720 * c.distance + c.runTime < 2 * (v + 1) * c.runTime) ∧
      (v = 2999 → 2 * 2999 * c.runTime ≤ 720 * c.distance + c.runTime))

/-- NOTICES_READ, ERRORS_READ and INPUTS_READ answer with what the reading link holds and then clear it for that link
alone; NOTICE_MASK_SET takes a mask of the nine kinds and refuses any other. -/
def Obligations.ClearingReadsClearTheirOwnLink : Prop :=
  ∀ (s : State) (l : Link) (port : LinkPort), Ready l s → port = s.lnk.ports.get l →
    exec (.noticesRead l) s = .next (s.answered l .ok
      (char2 port.noticeSet.toNat ++ char2 port.noticeMask.toNat)
      (s.toPanel.withPort l { port with noticeSet := 0 })) ∧
    exec (.errorsRead l) s = .next (s.answered l .ok
      (char1 port.charErrors ++ char1 port.discardedMessages ++ char1 port.overruns)
      (s.toPanel.withPort l { port with charErrors := 0, discardedMessages := 0, overruns := 0 })) ∧
    exec (.inputsRead l) s = .next (s.answered l .ok
      (char2 (maskOf (allInputs.map (inputActive s.toPanel))) ++ char2 (s.sws.seen.get l).toNat)
      { s.toPanel with sws := { s.sws with seen := s.sws.seen.set l 0 } }) ∧
    (∀ mask : BitVec 16, mask.toNat < 512 → exec (.noticeMaskSet l mask) s = .next (s.answered l .ok []
      (s.toPanel.withPort l { port with noticeMask := BitVec.ofNat 9 mask.toNat }))) ∧
    (∀ mask : BitVec 16, 512 ≤ mask.toNat →
      exec (.noticeMaskSet l mask) s = .next (s.answered l .badValue [] s.toPanel))

/-- TRIP_RESET by the effective owner or SERVICE, the owner being FRONT for TRIP_A and TRIP_B, REAR for JOURNEY while
REAR is fitted and PRESENT and FRONT otherwise, and no link for TANK: Previous takes the counts, the counts become 0,
State is left, with JOURNEY the destination is cleared, TRIP goes to the other links, and the range is delivered
afresh. From another link it is refused with NOT_OWNER, and of an index above 3 with BAD_VALUE. That the players
follow once every level is judged is the model's choice (assumption 14). -/
def Obligations.ATripReset : Prop :=
  ∀ (s : State) (l : Link) (i : TripId) (index : Byte), Ready l s →
    (4 ≤ index.toNat → exec (.tripReset l index) s = .next (s.answered l .badValue [] s.toPanel)) ∧
    (index.toNat = i.idx →
      ((l ≠ .service ∧ ¬Owns s.toPanel l i) →
        exec (.tripReset l index) s = .next (s.answered l .notOwner [] s.toPanel)) ∧
      ((l = .service ∨ Owns s.toPanel l i) →
        ∃ q, exec (.tripReset l index) s = .next (s.answered l .ok [] q) ∧
          WarningsJudged
            (notifyOthers .trip l { s.toPanel with trc := { s.trc with
              trips := s.trc.trips.set i { s.trc.trips.get i with
                counts := ⟨0, 0, 0⟩, previous := some (s.trc.trips.get i).counts }
              destinationKm := if i = .journey then none else s.trc.destinationKm
              arrivalArmed := if i = .journey then false else s.trc.arrivalArmed } }).withRange q))

/-- TRIP_HOLD and TRIP_RESUME by the effective owner or SERVICE, of a record other than TANK: a changed State posts
TRIP to the other links, an unchanged one changes nothing. From another link they are refused with NOT_OWNER, and TANK
from SERVICE or an index above 3 with BAD_VALUE. TRIP_SET_DESTINATION by JOURNEY's effective owner or SERVICE sets or
clears its destination and its arming, with TRIP to the other links; a value above 9999 and another link are refused.
-/
def Obligations.TripsAreHeldAndDirected : Prop :=
  ∀ (s : State) (l : Link), Ready l s →
    (∀ (i : TripId) (index : Byte), index.toNat = i.idx → i ≠ .tank →
      (l = .service ∨ Owns s.toPanel l i) → ∀ held : Bool,
      exec (if held then .tripHold l index else .tripResume l index) s = .next (s.answered l .ok []
        (if (s.trc.trips.get i).held = held then s.toPanel
         else notifyOthers .trip l { s.toPanel with trc := { s.trc with
           trips := s.trc.trips.set i { s.trc.trips.get i with held := held } } }))) ∧
    (∀ (i : TripId) (index : Byte), index.toNat = i.idx → l ≠ .service → ¬Owns s.toPanel l i →
      exec (.tripHold l index) s = .next (s.answered l .notOwner [] s.toPanel) ∧
      exec (.tripResume l index) s = .next (s.answered l .notOwner [] s.toPanel)) ∧
    (∀ index : Byte, (index.toNat = 3 ∧ l = .service ∨ 4 ≤ index.toNat) →
      exec (.tripHold l index) s = .next (s.answered l .badValue [] s.toPanel) ∧
      exec (.tripResume l index) s = .next (s.answered l .badValue [] s.toPanel)) ∧
    (∀ km : BitVec 16, (l = .service ∨ Owns s.toPanel l .journey) →
      exec (.tripSetDestination l km) s = .next (
        if 9999 < km.toNat then s.answered l .badValue [] s.toPanel
        else s.answered l .ok [] (notifyOthers .trip l { s.toPanel with trc := { s.trc with
          destinationKm := if km.toNat = 0 then none else some km.toNat
          arrivalArmed := decide (km.toNat ≠ 0) } }))) ∧
    (∀ km : BitVec 16, l ≠ .service → ¬Owns s.toPanel l .journey →
      exec (.tripSetDestination l km) s = .next (s.answered l .notOwner [] s.toPanel))

/-- WARNING_ACK of an ackable kind with an entry, from a link with a sounder of the kind: those sounders leave Pending
and join Acked, sounder F's re-sound timer starts or is cancelled, the other links get WARNINGS, and the entry leaves
the list when R103's conditions hold. No entry, or no sounder, answers NOT_ACTIVE, and a kind not ackable
NOT_PERMITTED.
That an OVERHEAT acknowledged again restarts its timer is the model's reading (assumption 21). -/
def Obligations.AWarningIsAcknowledged : Prop :=
  ∀ (s : State) (l : Link) (k : WarningKind) (kind : Byte), Ready l s → kind.toNat = kindNumber k →
    (s.wrc.entry k = none → exec (.warningAck l kind) s = .next (s.answered l .notActive [] s.toPanel)) ∧
    ∀ (e : WarningEntry) (f r : Bool), s.wrc.entry k = some e →
      f = ((kindSounders k).front && l != .rear) → r = ((kindSounders k).rear && l != .front) →
      (f = false → r = false → exec (.warningAck l kind) s = .next (s.answered l .notActive [] s.toPanel)) ∧
      ((f = true ∨ r = true) → isAckable k = false →
        exec (.warningAck l kind) s = .next (s.answered l .notPermitted [] s.toPanel)) ∧
      ((f = true ∨ r = true) → isAckable k = true →
        ∃ q, exec (.warningAck l kind) s = .next (s.answered l .ok [] q) ∧
          q = { s.toPanel with wrc := q.wrc, lnk := q.lnk } ∧
          (∀ m, m ≠ l →
            ((e.pending.front && f) || (e.pending.rear && r) || (f && !e.acked.front) || (r && !e.acked.rear)) = true →
            Noticed .warnings m q) ∧
          ∀ e' : WarningEntry,
            e' = { e with
              pending := ⟨e.pending.front && !f, e.pending.rear && !r⟩
              acked := ⟨e.acked.front || f, e.acked.rear || r⟩
              resound :=
                if f then (if isContinuous k then (resoundInterval k).or e.resound else none) else e.resound } →
            q.wrc.entry k = if e'.finished then none else some e')

/-- CALL from REAR outside STARTUP raises REAR_CALL, and from FRONT in RUN raises ARRIVAL, when the kind is enabled: a
new entry at the time of day, or the present one pending again and no longer acknowledged, REAR_CALL's re-sound timer
cancelled. A new ARRIVAL that rear quiet withholds leaves the list at once, and a present one stays as it is. A call
of a disabled kind is answered OK and changes nothing. -/
def Obligations.ACallRaisesItsWarning : Prop :=
  ∀ s : State,
    (Ready .rear s → s.pmc.mode = .startup →
      exec (.call .rear) s = .next (s.answered .rear .wrongMode [] s.toPanel)) ∧
    (Ready .front s → s.pmc.mode ≠ .run →
      exec (.call .front) s = .next (s.answered .front .wrongMode [] s.toPanel)) ∧
    (Ready .rear s → s.pmc.mode ≠ .startup →
      ∃ q, exec (.call .rear) s = .next (s.answered .rear .ok [] q) ∧ WarningsOnly s.toPanel q ∧
        (s.nvs.calibration.warningEnable.getLsbD 5 = false → q = s.toPanel) ∧
        (s.nvs.calibration.warningEnable.getLsbD 5 = true →
          (∀ l, Noticed .warnings l q) ∧
          (s.wrc.entry .rearCall = none → q.wrc.entry .rearCall =
            some ⟨.rearCall, false, ⟨true, false⟩, ⟨false, false⟩, none, s.svm.timeOfDay⟩) ∧
          ∀ e, s.wrc.entry .rearCall = some e → q.wrc.entry .rearCall =
            some { e with
              pending := { e.pending with front := true }, acked := { e.acked with front := false }
              resound := none })) ∧
    (Ready .front s → s.pmc.mode = .run →
      ∃ q, exec (.call .front) s = .next (s.answered .front .ok [] q) ∧ WarningsOnly s.toPanel q ∧
        (s.nvs.calibration.warningEnable.getLsbD 10 = false → q = s.toPanel) ∧
        (s.nvs.calibration.warningEnable.getLsbD 10 = true →
          (∀ l, Noticed .warnings l q) ∧
          (s.wrc.entry .arrival = none → q.wrc.entry .arrival =
            if s.wrc.rearQuiet then none
            else some ⟨.arrival, false, ⟨false, true⟩, ⟨false, false⟩, none, s.svm.timeOfDay⟩) ∧
          ∀ e, s.wrc.entry .arrival = some e → q.wrc.entry .arrival =
            some (if s.wrc.rearQuiet then e
              else { e with
                pending := { e.pending with rear := true }, acked := { e.acked with rear := false } })))

/-- OVERSPEED_SET from FRONT: 0 or 300 to 2500 becomes the setpoint and OVERSPEED is judged against V at once; any
other value is refused. REAR_QUIET_SET from REAR: yes takes sounder R out of the Pending of every entry of kinds 5 to
15 and leaves kinds 1 to 4 as they are; no changes nothing else; any other value is refused. That the players follow
once every level is judged is the model's choice (assumption 14). -/
def Obligations.SetpointAndRearQuietAreSet : Prop :=
  (∀ (s : State) (v : BitVec 16), Ready .front s →
    (v.toNat ≠ 0 → (v.toNat < 300 ∨ 2500 < v.toNat) →
      exec (.overspeedSet .front v) s = .next (s.answered .front .badValue [] s.toPanel)) ∧
    ((v.toNat = 0 ∨ (300 ≤ v.toNat ∧ v.toNat ≤ 2500)) →
      ∃ q, exec (.overspeedSet .front v) s = .next (s.answered .front .ok [] q) ∧
        WarningsJudged { s.toPanel with wrc := { s.wrc with overspeedSetpoint := v.toNat } } q ∧
        (s.pmc.mode = .run → s.nvs.calibration.warningEnable.getLsbD 3 = true →
          (s.wrc.levels.overspeed = false →
            (q.wrc.levels.overspeed = true ↔ v.toNat ≠ 0 ∧ v.toNat ≤ s.pcu.speedV)) ∧
          (s.wrc.levels.overspeed = true →
            (q.wrc.levels.overspeed = true ↔ v.toNat ≠ 0 ∧ v.toNat ≤ s.pcu.speedV + 30))))) ∧
  ∀ (s : State) (v : Byte), Ready .rear s →
    (1 < v.toNat → exec (.rearQuietSet .rear v) s = .next (s.answered .rear .badValue [] s.toPanel)) ∧
    (v.toNat = 0 → exec (.rearQuietSet .rear v) s = .next (s.answered .rear .ok []
      { s.toPanel with wrc := { s.wrc with rearQuiet := false } })) ∧
    (v.toNat = 1 → ∃ q, exec (.rearQuietSet .rear v) s = .next (s.answered .rear .ok [] q) ∧
      WarningsOnly s.toPanel q ∧ q.wrc.rearQuiet = true ∧
      (∀ e ∈ q.wrc.entries, 5 ≤ kindNumber e.kind → e.pending.rear = false) ∧
      (∀ k, kindNumber k ≤ 4 → q.wrc.entry k = s.wrc.entry k) ∧
      ∀ k e, 5 ≤ kindNumber k → s.wrc.entry k = some e → ∀ e' : WarningEntry,
        e' = { e with pending := { e.pending with rear := false } } →
        q.wrc.entry k = if e'.finished then none else some e')

/-- CLOCK_SET: from SERVICE it is not permitted, a value above 86,399 is refused, and any other becomes the time of day
with ClockSet yes and CLOCK to the other links; the second divider, the day timer, the day count and every service
State stand. -/
def Obligations.TheClockIsSet : Prop :=
  ∀ (s : State) (l : Link) (time : BitVec 24), Ready l s →
    (l = .service → exec (.clockSet l time) s = .next (s.answered l .notPermitted [] s.toPanel)) ∧
    (l ≠ .service → 86399 < time.toNat →
      exec (.clockSet l time) s = .next (s.answered l .badValue [] s.toPanel)) ∧
    (l ≠ .service → time.toNat ≤ 86399 →
      exec (.clockSet l time) s = .next (s.answered l .ok []
        (notifyOthers .clock l { s.toPanel with svm :=
          { s.svm with timeOfDay := time.toNat, clockSet := true } })))

/-- SERVICE_RESET: from SERVICE with the latch set, or from FRONT in RUN of an item that a driver may reset, is due
soon or worse, with the car stationary, and with room in the store: the item's last service is now, its job joins the
queue, SERVICE goes to the other links, the items are graded, and only SERVICE's consumes the latch. -/
def Obligations.AServiceReset : Prop :=
  ∀ (s : State) (l : Link) (i : SlotId) (slot : Byte) (it : ServiceItem), Ready l s → slot.toNat = i.idx →
    it = { s.svm.items.get i with lastKm := s.dfa.odometer / 10, lastDay := s.svm.dayCount } →
    (l = .service → s.nvs.unlockLatch = false →
      exec (.serviceReset l slot) s = .next (s.answered l .locked [] s.toPanel)) ∧
    (l = .front → s.pmc.mode ≠ .run →
      exec (.serviceReset l slot) s = .next (s.answered l .wrongMode [] s.toPanel)) ∧
    ((l = .service ∧ s.nvs.unlockLatch = true ∨
        l = .front ∧ s.pmc.mode = .run ∧ (s.svm.items.get i).driverReset = true ∧
          (s.svm.items.get i).state.nearDue = true ∧ s.pcu.stationary = true) →
      s.nvs.jobCount ≤ 5 → s.pmc.supplyLow = false →
      (∀ j ∈ s.nvs.queue, j.data.covers (.cells (64 + 4 * i.idx) (itemWords it)) = false) →
      ∃ q, exec (.serviceReset l slot) s = .next (s.answered l .ok [] q) ∧
        (q.svm.items.get i).lastKm = s.dfa.odometer / 10 ∧ (q.svm.items.get i).lastDay = s.svm.dayCount ∧
        (q.svm.items.get i).intervalKm = (s.svm.items.get i).intervalKm ∧
        (∀ k, k ≠ i → { q.svm.items.get k with state := .ok } = { s.svm.items.get k with state := .ok }) ∧
        q.itemsGraded ∧ q.nvs.Holds (.cells (64 + 4 * i.idx) (itemWords it)) ∧ q.nvs.cells = s.nvs.cells ∧
        q.nvs.unlockLatch = (if l = .service then false else s.nvs.unlockLatch) ∧
        (∀ m, m ≠ l → Noticed .service m q) ∧ q.dfa = s.dfa ∧ q.trc = s.trc ∧ q.pmc = s.pmc ∧ q.chk = s.chk)

/-- SERVICE_WRITE with the latch set, every field in range and the last service not in the future: the item is the one
carried, its job joins the queue, the latch is consumed, and the items are graded. A field out of range, or a last
service in the future, is refused with BAD_VALUE and the latch stays. -/
def Obligations.AServiceWrite : Prop :=
  ∀ (s : State) (i : SlotId) (slot : Byte) (w : ItemParams) (it : ServiceItem), Ready .service s →
    slot.toNat = i.idx → s.nvs.unlockLatch = true →
    it = ⟨w.enabled.toNat == 1, w.labelCode.toNat, w.intervalKm.toNat, w.intervalDays.toNat, w.lastKm.toNat,
      w.lastDay.toNat, w.driverReset.toNat == 1, (s.svm.items.get i).state⟩ →
    ((15 < w.labelCode.toNat ∨ 65000 < w.intervalKm.toNat ∨ 1000 < w.intervalDays.toNat ∨ 1 < w.enabled.toNat ∨
        1 < w.driverReset.toNat ∨ s.dfa.odometer / 10 < w.lastKm.toNat ∨ s.svm.dayCount < w.lastDay.toNat) →
      exec (.serviceWrite .service slot w) s = .next (s.answered .service .badValue [] s.toPanel)) ∧
    (w.labelCode.toNat ≤ 15 → w.intervalKm.toNat ≤ 65000 → w.intervalDays.toNat ≤ 1000 → w.enabled.toNat ≤ 1 →
      w.driverReset.toNat ≤ 1 → w.lastKm.toNat ≤ s.dfa.odometer / 10 → w.lastDay.toNat ≤ s.svm.dayCount →
      s.nvs.jobCount ≤ 5 → s.pmc.supplyLow = false →
      (∀ j ∈ s.nvs.queue, j.data.covers (.cells (64 + 4 * i.idx) (itemWords it)) = false) →
      ∃ q, exec (.serviceWrite .service slot w) s = .next (s.answered .service .ok [] q) ∧
        { q.svm.items.get i with state := it.state } = it ∧
        (∀ k, k ≠ i → { q.svm.items.get k with state := .ok } = { s.svm.items.get k with state := .ok }) ∧
        q.itemsGraded ∧ q.nvs.Holds (.cells (64 + 4 * i.idx) (itemWords it)) ∧ q.nvs.cells = s.nvs.cells ∧
        q.nvs.unlockLatch = false ∧ Noticed .service .front q ∧ Noticed .service .rear q ∧
        q.dfa = s.dfa ∧ q.trc = s.trc ∧ q.pmc = s.pmc ∧ q.chk = s.chk)

/-- CHECK_START from FRONT or SERVICE: outside RUN it is refused with WRONG_MODE and while a check runs with BUSY;
otherwise every result becomes NOT_TESTED, the OIL lamp is driven from now, and CHECK goes to the other links. -/
def Obligations.ACheckStarts : Prop :=
  ∀ (s : State) (l : Link), Ready l s → l ≠ .rear →
    (s.pmc.mode ≠ .run → exec (.checkStart l) s = .next (s.answered l .wrongMode [] s.toPanel)) ∧
    (s.pmc.mode = .run → s.chk.state = .running →
      exec (.checkStart l) s = .next (s.answered l .busy [] s.toPanel)) ∧
    (s.pmc.mode = .run → s.chk.state ≠ .running →
      ∃ q, exec (.checkStart l) s = .next (s.answered l .ok [] q) ∧
        q = { s.toPanel with chk := q.chk, wrc := q.wrc, lnk := q.lnk } ∧ q.chk.state = .running ∧
        q.chk.source = (if l = .service then .service else .front) ∧ q.chk.currentItem = some (.lamp .oil) ∧
        q.chk.phase = .driven ∧ q.chk.driveTime = some s.pcu.timebase ∧ q.chk.faultCount = 0 ∧
        (∀ i, q.chk.item i = ⟨.notTested, none, .absent⟩) ∧ (q.wrc.lamps.get .oil).output = true ∧
        ∀ m, m ≠ l → Noticed .check m q)

/-- STORE_OPEN sets the latch. WINDOW_SELECT takes a region, an index inside it and a mode, with the write permission
the latch gives, which it consumes. WINDOW_READ answers with the selected cell and steps the index in STEP_BOTH. -/
def Obligations.TheStoreWindow : Prop :=
  ∀ s : State, Ready .service s →
    exec (.storeOpen .service) s = .next (s.answered .service .ok []
      { s.toPanel with nvs := { s.nvs with unlockLatch := true } }) ∧
    (∀ (region index mode : Byte) (r : Region) (m : WindowMode), regionOf region.toNat = some r →
      windowModeOf mode.toNat = some m →
      exec (.windowSelect .service region index mode) s = .next (
        if index.toNat < r.size then s.answered .service .ok []
          { s.toPanel with nvs := { s.nvs with
            window := some ⟨r, index.toNat, m, s.nvs.unlockLatch⟩, unlockLatch := false } }
        else s.answered .service .badValue [] s.toPanel)) ∧
    (s.nvs.window = none → exec (.windowRead .service) s = .next (s.answered .service .badValue [] s.toPanel)) ∧
    (∀ w, s.nvs.window = some w →
      exec (.windowRead .service) s = .next (s.answered .service .ok
        (char2 (if w.region = .unused then 0 else s.nvs.readCell (w.region.first + w.index)).toNat)
        { s.toPanel with
          nvs.window :=
            if w.mode ≠ .stepBoth then some w
          else if w.index + 1 < w.region.size then some { w with index := w.index + 1 }
          else some { w with index := 0, writeEnabled := false } }))

/-- WINDOW_WRITE with no selection, no write permission, into a protected region, an UNUSED cell, the active bank, a bank
while a switch runs or a written IDENTITY cell, or without room in the store, is refused. Into an inactive bank, the
service table or an erased IDENTITY cell its job joins the queue, the cell reads as the value, and the index steps unless
the mode is NO_STEP. BANK_SWITCH with the latch set to a valid bank that is not active queues the selector's job and
consumes the latch. -/
def Obligations.WritesGoThroughTheQueue : Prop :=
  ∀ s : State, Ready .service s →
    (∀ value, s.nvs.window = none →
      exec (.windowWrite .service value) s = .next (s.answered .service .badValue [] s.toPanel)) ∧
    (∀ value w, s.nvs.window = some w → w.writeEnabled = false →
      exec (.windowWrite .service value) s = .next (s.answered .service .locked [] s.toPanel)) ∧
    (∀ value w, s.nvs.window = some w → w.writeEnabled = true →
      (w.region = .unused →
        exec (.windowWrite .service value) s = .next (s.answered .service .badValue [] s.toPanel)) ∧
      ((w.region = .odoRing ∨ w.region = .day ∨ w.region = .snapshot ∨ w.region = .control ∨
          w.region = .identity ∧ s.nvs.readCell (416 + w.index) ≠ 0xFFFF) →
        exec (.windowWrite .service value) s = .next (s.answered .service .notPermitted [] s.toPanel)) ∧
      ((w.region = .calA ∧ s.nvs.activeBank = some .a ∨ w.region = .calB ∧ s.nvs.activeBank = some .b) →
        exec (.windowWrite .service value) s = .next (s.answered .service .bankActive [] s.toPanel)) ∧
      ∀ first size : Nat,
        (w.region = .calA ∧ s.nvs.activeBank ≠ some .a ∧ first = 96 ∧ size = 160 ∨
          w.region = .calB ∧ s.nvs.activeBank ≠ some .b ∧ first = 256 ∧ size = 160 ∨
          w.region = .serviceTable ∧ first = 64 ∧ size = 24 ∨
          w.region = .identity ∧ s.nvs.readCell (416 + w.index) = 0xFFFF ∧ first = 416 ∧ size = 16) →
        ((size = 160 ∧ s.nvs.switchInFlight = true ∨ 5 < s.nvs.jobCount ∨ s.pmc.supplyLow = true) →
          exec (.windowWrite .service value) s = .next (s.answered .service .busy [] s.toPanel)) ∧
        ((size = 160 → s.nvs.switchInFlight = false) → s.nvs.jobCount ≤ 5 → s.pmc.supplyLow = false →
          ∃ q, exec (.windowWrite .service value) s = .next (s.answered .service .ok [] q) ∧
            ((∀ j ∈ s.nvs.queue, j.data.covers (.cells (first + w.index) [value]) = false) →
              q.nvs.Holds (.cells (first + w.index) [value])) ∧
            q.nvs.readCell (first + w.index) = value ∧ q.nvs.cells = s.nvs.cells ∧
            q.nvs.window = some
              (if w.mode = .noStep then w
               else if w.index + 1 < size then { w with index := w.index + 1 }
               else { w with index := 0, writeEnabled := false }) ∧
            q = { s.toPanel with nvs := q.nvs } ∧ q.nvs.calibration = s.nvs.calibration)) ∧
    (∀ (code : Byte) (bank : Bank), code.toNat = (match bank with | .a => 0 | .b => 1) →
      (s.nvs.unlockLatch = false →
        exec (.bankSwitch .service code) s = .next (s.answered .service .locked [] s.toPanel)) ∧
      (s.nvs.unlockLatch = true → s.nvs.activeBank = some bank →
        exec (.bankSwitch .service code) s = .next (s.answered .service .bankActive [] s.toPanel)) ∧
      (s.nvs.unlockLatch = true → s.nvs.activeBank ≠ some bank →
        (s.nvs.switchInFlight = true ∨ s.nvs.inOrder.any WriteJob.holdsBank = true ∨ 5 < s.nvs.jobCount ∨
          s.pmc.supplyLow = true) →
        exec (.bankSwitch .service code) s = .next (s.answered .service .busy [] s.toPanel)) ∧
      (s.nvs.unlockLatch = true → s.nvs.activeBank ≠ some bank → s.nvs.switchInFlight = false →
        s.nvs.inOrder.any WriteJob.holdsBank = false → s.nvs.jobCount ≤ 5 → s.pmc.supplyLow = false →
        (bankValid s.nvs.cells bank = false →
          exec (.bankSwitch .service code) s = .next (s.answered .service .bankInvalid [] s.toPanel)) ∧
        (bankValid s.nvs.cells bank = true →
          ∃ q, exec (.bankSwitch .service code) s = .next (s.answered .service .ok [] q) ∧
            ((∀ j ∈ s.nvs.queue, j.data.covers (selectorJob bank).data = false) → q.nvs.HoldsUrgent
              (.cells 88 [match bank with | .a => 0x00A5 | .b => 0x00B5,
                match bank with | .a => 0xFF5A | .b => 0xFF4A])) ∧
            q.nvs.cells = s.nvs.cells ∧ q.nvs.unlockLatch = false ∧ q.nvs.switchInFlight = true ∧
            q.nvs.activeBank = s.nvs.activeBank ∧ q.nvs.calibration = s.nvs.calibration ∧
            q = { s.toPanel with nvs := q.nvs })))

/-- ODOMETER_SET with the latch set, the odometer lock clear, the car stationary and room for two jobs: a value from the
odometer to 9,999,999 is the odometer, ODO_LOST is cleared, the lock is set, the latch is consumed, and both jobs join
the queue. A clear latch, a locked odometer, a moving car, a value outside, and a store without room are refused. -/
def Obligations.TheOdometerIsSetOnce : Prop :=
  ∀ (s : State) (v : BitVec 24), Ready .service s →
    ((s.nvs.unlockLatch = false ∨ s.nvs.odometerLock = true) →
      exec (.odometerSet .service v) s = .next (s.answered .service .locked [] s.toPanel)) ∧
    (s.nvs.unlockLatch = true → s.nvs.odometerLock = false → s.pcu.stationary = false →
      exec (.odometerSet .service v) s = .next (s.answered .service .moving [] s.toPanel)) ∧
    (s.nvs.unlockLatch = true → s.nvs.odometerLock = false → s.pcu.stationary = true →
      (v.toNat < s.dfa.odometer ∨ 9999999 < v.toNat) →
      exec (.odometerSet .service v) s = .next (s.answered .service .badValue [] s.toPanel)) ∧
    (s.nvs.unlockLatch = true → s.nvs.odometerLock = false → s.pcu.stationary = true →
      s.dfa.odometer ≤ v.toNat → v.toNat ≤ 9999999 → (4 < s.nvs.jobCount ∨ s.pmc.supplyLow = true) →
      exec (.odometerSet .service v) s = .next (s.answered .service .busy [] s.toPanel)) ∧
    (s.nvs.unlockLatch = true → s.nvs.odometerLock = false → s.pcu.stationary = true →
      s.dfa.odometer ≤ v.toNat → v.toNat ≤ 9999999 → s.nvs.jobCount ≤ 4 → s.pmc.supplyLow = false →
      ∃ q, exec (.odometerSet .service v) s = .next (s.answered .service .ok [] q) ∧
        q.dfa = { s.dfa with odometer := v.toNat, odoSubCount := 0, odoLost := false } ∧
        q.nvs.odometerLock = true ∧ q.nvs.unlockLatch = false ∧
        ((∀ j ∈ s.nvs.queue, j.data.covers (.cells 90 [0x00C3]) = false ∧ ∀ x, j.data ≠ .odometer x) →
          q.nvs.HoldsUrgent (.odometer v.toNat) ∧ q.nvs.HoldsUrgent (.cells 90 [0x00C3])) ∧
        q.nvs.cells = s.nvs.cells ∧ q.trc = s.trc ∧ q.pcu = s.pcu ∧
        q.gdr = s.gdr ∧ q.pmc = s.pmc ∧ q.svm.dayCount = s.svm.dayCount ∧
        q.chk.faultIndication = faultTerms { s.toPanel with dfa := q.dfa })

/-- RESTART from SERVICE is answered OK and arms the restart that the end of its reply begins; nothing else changes
before it. RESTART_BEGIN then, with no job begun in the store: the odometer, the trip records and destination, the
clock, the day count and the cells are kept; the remainders, the warnings, the check, the latch and the window's
selection are not; the straps are sampled and the mode is STARTUP.
RESTART_BEGIN as the end of the reply is the model's choice (assumption 8).
A reply in transmission on FRONT or REAR is cut off at the end of its character (R180, assumption 46). The pins keep
their levels (assumption 4), and the gauge driver holds the calibration recovered (assumption 41). -/
def Obligations.ARestartKeepsTheRecords : Prop :=
  (∀ s : State, Ready .service s →
    exec (.restart .service) s =
      .next (s.answered .service .ok [] { s.toPanel with lnk := { s.lnk with restartArmed := true } })) ∧
  ∀ (s : State) (units rear : Bool), s.powered = true → s.lnk.restartArmed = true → s.nvs.inFlight = none →
    (∀ j ∈ s.nvs.queue, j.progress = none) →
    ∃ q, exec (.restartBegin units rear) s = .next { s with toPanel := q } ∧ q.powered = true ∧
      q.nvs.cells = s.nvs.cells ∧
      q.dfa = { s.dfa with
        rd := 0, rf := 0, fuelSubCount := 0, fuelSampleTimer := none
        estimate := s.dfa.estimate.map (min q.nvs.calibration.tankCapacity) } ∧
      q.trc.trips = s.trc.trips ∧ q.trc.destinationKm = s.trc.destinationKm ∧
      q.trc.arrivalArmed = s.trc.arrivalArmed ∧ q.svm.timeOfDay = s.svm.timeOfDay ∧
      q.svm.clockSet = s.svm.clockSet ∧ q.svm.dayTimer = s.svm.dayTimer ∧ q.svm.dayCount = s.svm.dayCount ∧
      q.pcu = Pcu.reset ∧ q.sws = Sws.reset s.sws.pins ∧
      q.gdr = { Gdr.reset with calibration := q.nvs.calibration.forGauges } ∧ q.pmc = Pmc.reset units rear ∧
      (∀ l, { q.lnk.ports.get l with cutOff := none } = Lnk.reset.ports.get l ∧ (q.lnk.ports.get l).cutOff =
        if l = .service then none else (s.lnk.ports.get l).reply.or (s.lnk.ports.get l).cutOff) ∧
      q.lnk.restartArmed = false ∧ q.wrc.entries = [] ∧ q.chk.state = .idle ∧ q.nvs.unlockLatch = false ∧
      q.nvs.window = none ∧ q.nvs.switchInFlight = false ∧ q.nvs.recoveryDone = true

/-! ### The supply and the modes -/

/-- SUPPLY_LOW_ASSERTED removes the NORMAL jobs not begun and keeps the others, and in RUN begins SHUTDOWN: the timers
of RUN stop, the warnings of RUN leave the list and each player finishes its strike and follows, the check is over,
the latch is cleared, the gauges park, MODE goes to all links, and the URGENT snapshot job with E and the trip records
joins the queue, with the odometer job when tenths stand. Asserted already, nothing changes. The command is the
filter's output (assumption 9), and the deliveries follow the table's order (assumption 15). That an ARRIVAL entry
stays, and that a HELD trip's State is written as 1, are the model's choices (assumptions 55 and 56). That the players
follow once every level is judged is the model's choice (assumption 14). -/
def Obligations.SupplyLowEndsRun : Prop :=
  ∀ s : State, s.powered = true →
    (s.pmc.supplyLow = true → exec .supplyLowAsserted s = .next s) ∧
    (s.pmc.supplyLow = false →
      ∃ q, exec .supplyLowAsserted s = .next { s with toPanel := q } ∧ q.pmc.supplyLow = true ∧
        (∀ j ∈ q.nvs.queue, j.removable = false) ∧ q.nvs.cells = s.nvs.cells ∧ q.dfa.odometer = s.dfa.odometer ∧
        (s.pmc.mode ≠ .run → q.nvs.inFlight = s.nvs.inFlight ∧
          q.nvs.queue = s.nvs.queue.filter (fun j => decide (j.jobClass = .urgent) || j.progress.isSome)) ∧
        (s.pmc.mode = .run → ∀ snapshot : JobData,
          snapshot = .cells 34 (snapshotWords s.dfa.estimate s.trc.trips) →
          (s.nvs.queue.filter (fun j => decide (j.jobClass = .urgent) || j.progress.isSome)).length +
            s.nvs.inFlight.toList.length ≤ 6 →
          ((∀ j ∈ s.nvs.queue, j.removable = false → j.data.covers snapshot = false) →
            q.nvs.HoldsUrgent snapshot) ∧
          ((∀ j ∈ s.nvs.queue, j.removable = false → ∀ v, j.data ≠ .odometer v) → s.dfa.odometer % 10 ≠ 0 →
            q.nvs.HoldsUrgent (.odometer s.dfa.odometer)) ∧
          ∀ j ∈ s.nvs.queue, j.removable = false → (∀ v, j.data ≠ .odometer v) →
            j.data.covers snapshot = false → snapshot.covers j.data = false →
            ∃ j', (j' ∈ q.nvs.queue ∨ q.nvs.inFlight = some j') ∧ j'.data = j.data ∧ j'.jobClass = j.jobClass) ∧
        q.trc = s.trc ∧ q.pcu = s.pcu ∧ q.adc = s.adc ∧ q.svm = s.svm ∧
        (s.pmc.mode ≠ .run → q.pmc = { s.pmc with supplyLow := true } ∧ q.gdr = s.gdr ∧ q.wrc = s.wrc ∧
          q.chk = s.chk ∧ q.sws = s.sws) ∧
        (s.pmc.mode = .run →
          q.pmc = { s.pmc with
            mode := .shutdown, supplyLow := true, bulbCheckTimer := none, beltTimer := none
            gaugesAtRest := false, snapshotWritten := false, shutdownTimer := some 2000000 } ∧
          q.dfa = { s.dfa with fuelSampleTimer := none } ∧ q.chk.state ≠ .running ∧
          q.chk.phase = (if s.chk.state = .running then .none else s.chk.phase) ∧
          q.nvs.unlockLatch = false ∧ (∀ w, q.nvs.window = some w → w.writeEnabled = false) ∧
          JudgedFrom { s.wrc with bulbCheck := false, beltWindow := false, linkGraceTimer := none } q ∧
          (∀ g, (q.gdr.gauges.get g).phase = .parking ∨ (q.gdr.gauges.get g).phase = .disabled) ∧
          ∀ l, Noticed .mode l q))

/-- SUPPLY_LOW_RELEASED outside SHUTDOWN and STANDBY, or with IGN_ON not ACTIVE, changes SupplyLow alone; otherwise it
begins RUN: the bulb check, the belt window and the link grace begin, the converter and the fuel sample start, the
instant window is cleared, a free gauge sweeps or tracks, a check starts, and MODE and CHECK go to all links.
The command is the filter's output (assumption 9), and the deliveries follow the table's order (assumption 15). -/
def Obligations.SupplyReturnBeginsRun : Prop :=
  ∀ s : State, s.powered = true →
    (s.pmc.supplyLow = false → exec .supplyLowReleased s = .next s) ∧
    (s.pmc.supplyLow = true →
      (s.pmc.mode = .run ∨ s.pmc.mode = .startup ∨ s.sws.inputs.ignOn.accepted ≠ .active) →
      exec .supplyLowReleased s = .next { s with pmc := { s.pmc with supplyLow := false } }) ∧
    (s.pmc.supplyLow = true → (s.pmc.mode = .shutdown ∨ s.pmc.mode = .standby) →
      s.sws.inputs.ignOn.accepted = .active →
      ∃ q, exec .supplyLowReleased s = .next { s with toPanel := q } ∧
        q.pmc = { s.pmc with
          mode := .run, supplyLow := false, shutdownTimer := none, gaugesAtRest := false, snapshotWritten := false
          bulbCheckTimer := some 3000000, beltTimer := some 6000000 } ∧
        q.wrc.bulbCheck = true ∧ q.wrc.beltWindow = true ∧ q.wrc.linkGraceTimer = some 2000000 ∧
        q.sws.sampleTimer = some 8000 ∧ (∀ i, (q.sws.inputs.get i).count = 0 ∧
          (q.sws.inputs.get i).accepted = (s.sws.inputs.get i).accepted) ∧
        (∀ started : Conversion, started = s.adc.conversion.getD ⟨.fuel, s.pcu.timebase, some 2000⟩ →
          q.adc = { s.adc with conversion := some started }) ∧
        q.dfa = { s.dfa with fuelSampleTimer := some 2000000 } ∧ q.trc.trips = s.trc.trips ∧
        q.trc.ring = List.replicate 8 ⟨0, 0⟩ ∧ q.trc.current = ⟨0, 0⟩ ∧
        (∀ g, (q.gdr.gauges.get g).phase =
          if (s.gdr.gauges.get g).phase = .disabled then .disabled
          else if s.nvs.calibration.sweepEnable then .sweepUp else .tracking) ∧
        q.gdr.refreshTimer.isSome = true ∧ q.chk.state = .running ∧ q.chk.source = .auto ∧
        q.chk.currentItem = some (.lamp .oil) ∧ q.nvs = s.nvs ∧ q.pcu = s.pcu ∧
        (∀ l, Noticed .mode l q ∧ Noticed .check l q ∧ ((s.lnk.ports.get l).present = true →
          (q.lnk.ports.get l).presenceTimer = some 2000000)))

/-- SHUTDOWN_TIMER_EXPIRY stands for gauges at rest, and so does the first refresh after which every gauge is PARKED
or DISABLED, the last pointers reaching 0 in it; with the snapshot already written, or when a snapshot's last cell is
programmed with the gauges at rest, STANDBY begins: the converter and the refresh stop, the gauges that were parking
are PARKED, and MODE goes to all links. -/
def Obligations.ShutdownEndsInStandby : Prop :=
  ∀ (s : State) (resting : Prop), s.powered = true → s.pmc.mode = .shutdown →
    (resting ↔ s.gdr.refreshTimer.isSome = true ∧ s.gdr.restDelivered = false ∧
      ∀ g, (s.gdr.gauges.get g).hold ≠ .requested ∧ ((s.gdr.gauges.get g).phase = .parked ∨
        (s.gdr.gauges.get g).phase = .disabled ∨
        (s.gdr.gauges.get g).phase = .parking ∧ ((s.gdr.gauges.get g).current = 0 ∨
          (s.gdr.gauges.get g).hold = .none ∧
            (s.gdr.gauges.get g).current ≤ max (s.nvs.calibration.gaugeSlew.get g) 8))) →
    (s.pmc.shutdownTimer.isSome = true → s.pmc.snapshotWritten = false →
      exec .shutdownTimerExpiry s = .next { s with pmc :=
        { s.pmc with gaugesAtRest := true, shutdownTimer := none } }) ∧
    (resting → s.pmc.snapshotWritten = false →
      ∃ q, exec .refreshExpiry s = .next { s with toPanel := q } ∧ q.gdr.restDelivered = true ∧
        q = { s.toPanel with
          gdr := q.gdr, pmc := { s.pmc with gaugesAtRest := true, shutdownTimer := none } } ∧
        ∀ g, (q.gdr.gauges.get g).phase = .parked ∨ (q.gdr.gauges.get g).phase = .disabled) ∧
    ((s.gdr.restDelivered = true ∨ ∃ g, (s.gdr.gauges.get g).phase = .tracking ∨
        (s.gdr.gauges.get g).phase = .parking ∧
          max (s.nvs.calibration.gaugeSlew.get g) 8 < (s.gdr.gauges.get g).current) →
      ∃ q, exec .refreshExpiry s = .next { s with toPanel := q } ∧ q.pmc = s.pmc) ∧
    ∀ c : Instr,
      (c = .shutdownTimerExpiry ∧ s.pmc.shutdownTimer.isSome = true ∧ s.pmc.snapshotWritten = true ∨
        c = .refreshExpiry ∧ resting ∧ s.pmc.snapshotWritten = true ∨
        c = .cellProgrammed ∧ s.pmc.gaugesAtRest = true ∧ s.nvs.draining = false ∧
          (∃ j words, s.nvs.inFlight = some j ∧ j.data = .cells 34 words ∧ words.length = 30 ∧
            j.progress = some 63) ∧ ∀ j ∈ s.nvs.queue, ∀ words, j.data ≠ .cells 34 words) →
      ∃ q, exec c s = .next { s with toPanel := q } ∧ q.pmc.mode = .standby ∧ q.pmc.supplyLow = s.pmc.supplyLow ∧
        q.sws.sampleTimer = some 64000 ∧ q.adc.conversion = none ∧
        (∀ sd, (q.adc.faults.get sd).persistence = none) ∧ q.gdr.refreshTimer = none ∧
        (∀ g, (q.gdr.gauges.get g).phase =
            (if (s.gdr.gauges.get g).phase = .parking then .parked else (s.gdr.gauges.get g).phase) ∧
          (q.gdr.gauges.get g).current =
            (if c = .refreshExpiry ∧ (s.gdr.gauges.get g).phase = .parking then 0
             else (s.gdr.gauges.get g).current) ∧ (q.gdr.gauges.get g).duty = ⟨0, 0⟩) ∧
        q.dfa = s.dfa ∧ q.trc = s.trc ∧ q.svm = s.svm ∧ q.chk = s.chk ∧ q.pcu = s.pcu ∧ ∀ l, Noticed .mode l q
end

