-- ==== Sys2Proof/Laws/Access.lean ====
section
/-! SUPPORT. Laws of reading and writing one entry of a fixed record: a read after a write of the same
entry, and of another one. -/

namespace Sys2Proof.Machine

@[simp] theorem PerLink.get_set_self {α : Type} (r : PerLink α) (k : _) (v : α) : (r.set k v).get k = v := by
  cases k <;> rfl

theorem PerLink.get_set_ne {α : Type} (r : PerLink α) {j k : _} (v : α) (h : j ≠ k) :
    (r.set k v).get j = r.get j := by
  cases j <;> cases k <;> first | rfl | exact absurd rfl h

@[simp] theorem PerLink.get_of {α : Type} (f : _ → α) (k : _) : (PerLink.of f).get k = f k := by
  cases k <;> rfl

@[simp] theorem PerLink.get_map {α β : Type} (f : α → β) (r : PerLink α) (k : _) : (PerLink.map f r).get k = f (r.get k) := by
  cases k <;> rfl

@[simp] theorem PerSender.get_set_self {α : Type} (r : PerSender α) (k : _) (v : α) : (r.set k v).get k = v := by
  cases k <;> rfl

theorem PerSender.get_set_ne {α : Type} (r : PerSender α) {j k : _} (v : α) (h : j ≠ k) :
    (r.set k v).get j = r.get j := by
  cases j <;> cases k <;> first | rfl | exact absurd rfl h

@[simp] theorem PerSender.get_of {α : Type} (f : _ → α) (k : _) : (PerSender.of f).get k = f k := by
  cases k <;> rfl

@[simp] theorem PerSender.get_map {α β : Type} (f : α → β) (r : PerSender α) (k : _) : (PerSender.map f r).get k = f (r.get k) := by
  cases k <;> rfl

@[simp] theorem PerChannel.get_set_self {α : Type} (r : PerChannel α) (k : _) (v : α) : (r.set k v).get k = v := by
  cases k <;> rfl

theorem PerChannel.get_set_ne {α : Type} (r : PerChannel α) {j k : _} (v : α) (h : j ≠ k) :
    (r.set k v).get j = r.get j := by
  cases j <;> cases k <;> first | rfl | exact absurd rfl h

@[simp] theorem PerChannel.get_of {α : Type} (f : _ → α) (k : _) : (PerChannel.of f).get k = f k := by
  cases k <;> rfl

@[simp] theorem PerChannel.get_map {α β : Type} (f : α → β) (r : PerChannel α) (k : _) : (PerChannel.map f r).get k = f (r.get k) := by
  cases k <;> rfl

@[simp] theorem PerSwitch.get_set_self {α : Type} (r : PerSwitch α) (k : _) (v : α) : (r.set k v).get k = v := by
  cases k <;> rfl

theorem PerSwitch.get_set_ne {α : Type} (r : PerSwitch α) {j k : _} (v : α) (h : j ≠ k) :
    (r.set k v).get j = r.get j := by
  cases j <;> cases k <;> first | rfl | exact absurd rfl h

@[simp] theorem PerSwitch.get_of {α : Type} (f : _ → α) (k : _) : (PerSwitch.of f).get k = f k := by
  cases k <;> rfl

@[simp] theorem PerSwitch.get_map {α β : Type} (f : α → β) (r : PerSwitch α) (k : _) : (PerSwitch.map f r).get k = f (r.get k) := by
  cases k <;> rfl

@[simp] theorem PerTrip.get_set_self {α : Type} (r : PerTrip α) (k : _) (v : α) : (r.set k v).get k = v := by
  cases k <;> rfl

theorem PerTrip.get_set_ne {α : Type} (r : PerTrip α) {j k : _} (v : α) (h : j ≠ k) :
    (r.set k v).get j = r.get j := by
  cases j <;> cases k <;> first | rfl | exact absurd rfl h

@[simp] theorem PerTrip.get_of {α : Type} (f : _ → α) (k : _) : (PerTrip.of f).get k = f k := by
  cases k <;> rfl

@[simp] theorem PerTrip.get_map {α β : Type} (f : α → β) (r : PerTrip α) (k : _) : (PerTrip.map f r).get k = f (r.get k) := by
  cases k <;> rfl

@[simp] theorem PerGauge.get_set_self {α : Type} (r : PerGauge α) (k : _) (v : α) : (r.set k v).get k = v := by
  cases k <;> rfl

theorem PerGauge.get_set_ne {α : Type} (r : PerGauge α) {j k : _} (v : α) (h : j ≠ k) :
    (r.set k v).get j = r.get j := by
  cases j <;> cases k <;> first | rfl | exact absurd rfl h

@[simp] theorem PerGauge.get_of {α : Type} (f : _ → α) (k : _) : (PerGauge.of f).get k = f k := by
  cases k <;> rfl

@[simp] theorem PerGauge.get_map {α β : Type} (f : α → β) (r : PerGauge α) (k : _) : (PerGauge.map f r).get k = f (r.get k) := by
  cases k <;> rfl

@[simp] theorem PerCoil.get_set_self {α : Type} (r : PerCoil α) (k : _) (v : α) : (r.set k v).get k = v := by
  cases k <;> rfl

theorem PerCoil.get_set_ne {α : Type} (r : PerCoil α) {j k : _} (v : α) (h : j ≠ k) :
    (r.set k v).get j = r.get j := by
  cases j <;> cases k <;> first | rfl | exact absurd rfl h

@[simp] theorem PerCoil.get_of {α : Type} (f : _ → α) (k : _) : (PerCoil.of f).get k = f k := by
  cases k <;> rfl

@[simp] theorem PerCoil.get_map {α β : Type} (f : α → β) (r : PerCoil α) (k : _) : (PerCoil.map f r).get k = f (r.get k) := by
  cases k <;> rfl

@[simp] theorem PerLamp.get_set_self {α : Type} (r : PerLamp α) (k : _) (v : α) : (r.set k v).get k = v := by
  cases k <;> rfl

theorem PerLamp.get_set_ne {α : Type} (r : PerLamp α) {j k : _} (v : α) (h : j ≠ k) :
    (r.set k v).get j = r.get j := by
  cases j <;> cases k <;> first | rfl | exact absurd rfl h

@[simp] theorem PerLamp.get_of {α : Type} (f : _ → α) (k : _) : (PerLamp.of f).get k = f k := by
  cases k <;> rfl

@[simp] theorem PerLamp.get_map {α β : Type} (f : α → β) (r : PerLamp α) (k : _) : (PerLamp.map f r).get k = f (r.get k) := by
  cases k <;> rfl

@[simp] theorem PerSounder.get_set_self {α : Type} (r : PerSounder α) (k : _) (v : α) : (r.set k v).get k = v := by
  cases k <;> rfl

theorem PerSounder.get_set_ne {α : Type} (r : PerSounder α) {j k : _} (v : α) (h : j ≠ k) :
    (r.set k v).get j = r.get j := by
  cases j <;> cases k <;> first | rfl | exact absurd rfl h

@[simp] theorem PerSounder.get_of {α : Type} (f : _ → α) (k : _) : (PerSounder.of f).get k = f k := by
  cases k <;> rfl

@[simp] theorem PerSounder.get_map {α β : Type} (f : α → β) (r : PerSounder α) (k : _) : (PerSounder.map f r).get k = f (r.get k) := by
  cases k <;> rfl

@[simp] theorem PerSlot.get_set_self {α : Type} (r : PerSlot α) (k : _) (v : α) : (r.set k v).get k = v := by
  cases k <;> rfl

theorem PerSlot.get_set_ne {α : Type} (r : PerSlot α) {j k : _} (v : α) (h : j ≠ k) :
    (r.set k v).get j = r.get j := by
  cases j <;> cases k <;> first | rfl | exact absurd rfl h

@[simp] theorem PerSlot.get_of {α : Type} (f : _ → α) (k : _) : (PerSlot.of f).get k = f k := by
  cases k <;> rfl

@[simp] theorem PerSlot.get_map {α β : Type} (f : α → β) (r : PerSlot α) (k : _) : (PerSlot.map f r).get k = f (r.get k) := by
  cases k <;> rfl

end Sys2Proof.Machine
end

