-- ==== Sys2Proof/Laws/State.lean ====
section
/-! SUPPORT. One lemma per block per update of the part, true by unfolding, so that no proof opens a record
update. -/

namespace Sys2Proof.Machine

open Sys2Proof

@[simp] theorem Panel.withPcu_powered (x : Pcu) (p : Panel) : (p.withPcu x).powered = p.powered := rfl
@[simp] theorem Panel.withPcu_pcu (x : Pcu) (p : Panel) : (p.withPcu x).pcu = x := rfl
@[simp] theorem Panel.withPcu_sws (x : Pcu) (p : Panel) : (p.withPcu x).sws = p.sws := rfl
@[simp] theorem Panel.withPcu_adc (x : Pcu) (p : Panel) : (p.withPcu x).adc = p.adc := rfl
@[simp] theorem Panel.withPcu_dfa (x : Pcu) (p : Panel) : (p.withPcu x).dfa = p.dfa := rfl
@[simp] theorem Panel.withPcu_trc (x : Pcu) (p : Panel) : (p.withPcu x).trc = p.trc := rfl
@[simp] theorem Panel.withPcu_gdr (x : Pcu) (p : Panel) : (p.withPcu x).gdr = p.gdr := rfl
@[simp] theorem Panel.withPcu_wrc (x : Pcu) (p : Panel) : (p.withPcu x).wrc = p.wrc := rfl
@[simp] theorem Panel.withPcu_svm (x : Pcu) (p : Panel) : (p.withPcu x).svm = p.svm := rfl
@[simp] theorem Panel.withPcu_chk (x : Pcu) (p : Panel) : (p.withPcu x).chk = p.chk := rfl
@[simp] theorem Panel.withPcu_nvs (x : Pcu) (p : Panel) : (p.withPcu x).nvs = p.nvs := rfl
@[simp] theorem Panel.withPcu_pmc (x : Pcu) (p : Panel) : (p.withPcu x).pmc = p.pmc := rfl
@[simp] theorem Panel.withPcu_lnk (x : Pcu) (p : Panel) : (p.withPcu x).lnk = p.lnk := rfl

@[simp] theorem Panel.withSws_powered (x : Sws) (p : Panel) : (p.withSws x).powered = p.powered := rfl
@[simp] theorem Panel.withSws_pcu (x : Sws) (p : Panel) : (p.withSws x).pcu = p.pcu := rfl
@[simp] theorem Panel.withSws_sws (x : Sws) (p : Panel) : (p.withSws x).sws = x := rfl
@[simp] theorem Panel.withSws_adc (x : Sws) (p : Panel) : (p.withSws x).adc = p.adc := rfl
@[simp] theorem Panel.withSws_dfa (x : Sws) (p : Panel) : (p.withSws x).dfa = p.dfa := rfl
@[simp] theorem Panel.withSws_trc (x : Sws) (p : Panel) : (p.withSws x).trc = p.trc := rfl
@[simp] theorem Panel.withSws_gdr (x : Sws) (p : Panel) : (p.withSws x).gdr = p.gdr := rfl
@[simp] theorem Panel.withSws_wrc (x : Sws) (p : Panel) : (p.withSws x).wrc = p.wrc := rfl
@[simp] theorem Panel.withSws_svm (x : Sws) (p : Panel) : (p.withSws x).svm = p.svm := rfl
@[simp] theorem Panel.withSws_chk (x : Sws) (p : Panel) : (p.withSws x).chk = p.chk := rfl
@[simp] theorem Panel.withSws_nvs (x : Sws) (p : Panel) : (p.withSws x).nvs = p.nvs := rfl
@[simp] theorem Panel.withSws_pmc (x : Sws) (p : Panel) : (p.withSws x).pmc = p.pmc := rfl
@[simp] theorem Panel.withSws_lnk (x : Sws) (p : Panel) : (p.withSws x).lnk = p.lnk := rfl

@[simp] theorem Panel.withAdc_powered (x : Adc) (p : Panel) : (p.withAdc x).powered = p.powered := rfl
@[simp] theorem Panel.withAdc_pcu (x : Adc) (p : Panel) : (p.withAdc x).pcu = p.pcu := rfl
@[simp] theorem Panel.withAdc_sws (x : Adc) (p : Panel) : (p.withAdc x).sws = p.sws := rfl
@[simp] theorem Panel.withAdc_adc (x : Adc) (p : Panel) : (p.withAdc x).adc = x := rfl
@[simp] theorem Panel.withAdc_dfa (x : Adc) (p : Panel) : (p.withAdc x).dfa = p.dfa := rfl
@[simp] theorem Panel.withAdc_trc (x : Adc) (p : Panel) : (p.withAdc x).trc = p.trc := rfl
@[simp] theorem Panel.withAdc_gdr (x : Adc) (p : Panel) : (p.withAdc x).gdr = p.gdr := rfl
@[simp] theorem Panel.withAdc_wrc (x : Adc) (p : Panel) : (p.withAdc x).wrc = p.wrc := rfl
@[simp] theorem Panel.withAdc_svm (x : Adc) (p : Panel) : (p.withAdc x).svm = p.svm := rfl
@[simp] theorem Panel.withAdc_chk (x : Adc) (p : Panel) : (p.withAdc x).chk = p.chk := rfl
@[simp] theorem Panel.withAdc_nvs (x : Adc) (p : Panel) : (p.withAdc x).nvs = p.nvs := rfl
@[simp] theorem Panel.withAdc_pmc (x : Adc) (p : Panel) : (p.withAdc x).pmc = p.pmc := rfl
@[simp] theorem Panel.withAdc_lnk (x : Adc) (p : Panel) : (p.withAdc x).lnk = p.lnk := rfl

@[simp] theorem Panel.withDfa_powered (x : Dfa) (p : Panel) : (p.withDfa x).powered = p.powered := rfl
@[simp] theorem Panel.withDfa_pcu (x : Dfa) (p : Panel) : (p.withDfa x).pcu = p.pcu := rfl
@[simp] theorem Panel.withDfa_sws (x : Dfa) (p : Panel) : (p.withDfa x).sws = p.sws := rfl
@[simp] theorem Panel.withDfa_adc (x : Dfa) (p : Panel) : (p.withDfa x).adc = p.adc := rfl
@[simp] theorem Panel.withDfa_dfa (x : Dfa) (p : Panel) : (p.withDfa x).dfa = x := rfl
@[simp] theorem Panel.withDfa_trc (x : Dfa) (p : Panel) : (p.withDfa x).trc = p.trc := rfl
@[simp] theorem Panel.withDfa_gdr (x : Dfa) (p : Panel) : (p.withDfa x).gdr = p.gdr := rfl
@[simp] theorem Panel.withDfa_wrc (x : Dfa) (p : Panel) : (p.withDfa x).wrc = p.wrc := rfl
@[simp] theorem Panel.withDfa_svm (x : Dfa) (p : Panel) : (p.withDfa x).svm = p.svm := rfl
@[simp] theorem Panel.withDfa_chk (x : Dfa) (p : Panel) : (p.withDfa x).chk = p.chk := rfl
@[simp] theorem Panel.withDfa_nvs (x : Dfa) (p : Panel) : (p.withDfa x).nvs = p.nvs := rfl
@[simp] theorem Panel.withDfa_pmc (x : Dfa) (p : Panel) : (p.withDfa x).pmc = p.pmc := rfl
@[simp] theorem Panel.withDfa_lnk (x : Dfa) (p : Panel) : (p.withDfa x).lnk = p.lnk := rfl

@[simp] theorem Panel.withTrc_powered (x : Trc) (p : Panel) : (p.withTrc x).powered = p.powered := rfl
@[simp] theorem Panel.withTrc_pcu (x : Trc) (p : Panel) : (p.withTrc x).pcu = p.pcu := rfl
@[simp] theorem Panel.withTrc_sws (x : Trc) (p : Panel) : (p.withTrc x).sws = p.sws := rfl
@[simp] theorem Panel.withTrc_adc (x : Trc) (p : Panel) : (p.withTrc x).adc = p.adc := rfl
@[simp] theorem Panel.withTrc_dfa (x : Trc) (p : Panel) : (p.withTrc x).dfa = p.dfa := rfl
@[simp] theorem Panel.withTrc_trc (x : Trc) (p : Panel) : (p.withTrc x).trc = x := rfl
@[simp] theorem Panel.withTrc_gdr (x : Trc) (p : Panel) : (p.withTrc x).gdr = p.gdr := rfl
@[simp] theorem Panel.withTrc_wrc (x : Trc) (p : Panel) : (p.withTrc x).wrc = p.wrc := rfl
@[simp] theorem Panel.withTrc_svm (x : Trc) (p : Panel) : (p.withTrc x).svm = p.svm := rfl
@[simp] theorem Panel.withTrc_chk (x : Trc) (p : Panel) : (p.withTrc x).chk = p.chk := rfl
@[simp] theorem Panel.withTrc_nvs (x : Trc) (p : Panel) : (p.withTrc x).nvs = p.nvs := rfl
@[simp] theorem Panel.withTrc_pmc (x : Trc) (p : Panel) : (p.withTrc x).pmc = p.pmc := rfl
@[simp] theorem Panel.withTrc_lnk (x : Trc) (p : Panel) : (p.withTrc x).lnk = p.lnk := rfl

@[simp] theorem Panel.withGdr_powered (x : Gdr) (p : Panel) : (p.withGdr x).powered = p.powered := rfl
@[simp] theorem Panel.withGdr_pcu (x : Gdr) (p : Panel) : (p.withGdr x).pcu = p.pcu := rfl
@[simp] theorem Panel.withGdr_sws (x : Gdr) (p : Panel) : (p.withGdr x).sws = p.sws := rfl
@[simp] theorem Panel.withGdr_adc (x : Gdr) (p : Panel) : (p.withGdr x).adc = p.adc := rfl
@[simp] theorem Panel.withGdr_dfa (x : Gdr) (p : Panel) : (p.withGdr x).dfa = p.dfa := rfl
@[simp] theorem Panel.withGdr_trc (x : Gdr) (p : Panel) : (p.withGdr x).trc = p.trc := rfl
@[simp] theorem Panel.withGdr_gdr (x : Gdr) (p : Panel) : (p.withGdr x).gdr = x := rfl
@[simp] theorem Panel.withGdr_wrc (x : Gdr) (p : Panel) : (p.withGdr x).wrc = p.wrc := rfl
@[simp] theorem Panel.withGdr_svm (x : Gdr) (p : Panel) : (p.withGdr x).svm = p.svm := rfl
@[simp] theorem Panel.withGdr_chk (x : Gdr) (p : Panel) : (p.withGdr x).chk = p.chk := rfl
@[simp] theorem Panel.withGdr_nvs (x : Gdr) (p : Panel) : (p.withGdr x).nvs = p.nvs := rfl
@[simp] theorem Panel.withGdr_pmc (x : Gdr) (p : Panel) : (p.withGdr x).pmc = p.pmc := rfl
@[simp] theorem Panel.withGdr_lnk (x : Gdr) (p : Panel) : (p.withGdr x).lnk = p.lnk := rfl

@[simp] theorem Panel.withWrc_powered (x : Wrc) (p : Panel) : (p.withWrc x).powered = p.powered := rfl
@[simp] theorem Panel.withWrc_pcu (x : Wrc) (p : Panel) : (p.withWrc x).pcu = p.pcu := rfl
@[simp] theorem Panel.withWrc_sws (x : Wrc) (p : Panel) : (p.withWrc x).sws = p.sws := rfl
@[simp] theorem Panel.withWrc_adc (x : Wrc) (p : Panel) : (p.withWrc x).adc = p.adc := rfl
@[simp] theorem Panel.withWrc_dfa (x : Wrc) (p : Panel) : (p.withWrc x).dfa = p.dfa := rfl
@[simp] theorem Panel.withWrc_trc (x : Wrc) (p : Panel) : (p.withWrc x).trc = p.trc := rfl
@[simp] theorem Panel.withWrc_gdr (x : Wrc) (p : Panel) : (p.withWrc x).gdr = p.gdr := rfl
@[simp] theorem Panel.withWrc_wrc (x : Wrc) (p : Panel) : (p.withWrc x).wrc = x := rfl
@[simp] theorem Panel.withWrc_svm (x : Wrc) (p : Panel) : (p.withWrc x).svm = p.svm := rfl
@[simp] theorem Panel.withWrc_chk (x : Wrc) (p : Panel) : (p.withWrc x).chk = p.chk := rfl
@[simp] theorem Panel.withWrc_nvs (x : Wrc) (p : Panel) : (p.withWrc x).nvs = p.nvs := rfl
@[simp] theorem Panel.withWrc_pmc (x : Wrc) (p : Panel) : (p.withWrc x).pmc = p.pmc := rfl
@[simp] theorem Panel.withWrc_lnk (x : Wrc) (p : Panel) : (p.withWrc x).lnk = p.lnk := rfl

@[simp] theorem Panel.withSvm_powered (x : Svm) (p : Panel) : (p.withSvm x).powered = p.powered := rfl
@[simp] theorem Panel.withSvm_pcu (x : Svm) (p : Panel) : (p.withSvm x).pcu = p.pcu := rfl
@[simp] theorem Panel.withSvm_sws (x : Svm) (p : Panel) : (p.withSvm x).sws = p.sws := rfl
@[simp] theorem Panel.withSvm_adc (x : Svm) (p : Panel) : (p.withSvm x).adc = p.adc := rfl
@[simp] theorem Panel.withSvm_dfa (x : Svm) (p : Panel) : (p.withSvm x).dfa = p.dfa := rfl
@[simp] theorem Panel.withSvm_trc (x : Svm) (p : Panel) : (p.withSvm x).trc = p.trc := rfl
@[simp] theorem Panel.withSvm_gdr (x : Svm) (p : Panel) : (p.withSvm x).gdr = p.gdr := rfl
@[simp] theorem Panel.withSvm_wrc (x : Svm) (p : Panel) : (p.withSvm x).wrc = p.wrc := rfl
@[simp] theorem Panel.withSvm_svm (x : Svm) (p : Panel) : (p.withSvm x).svm = x := rfl
@[simp] theorem Panel.withSvm_chk (x : Svm) (p : Panel) : (p.withSvm x).chk = p.chk := rfl
@[simp] theorem Panel.withSvm_nvs (x : Svm) (p : Panel) : (p.withSvm x).nvs = p.nvs := rfl
@[simp] theorem Panel.withSvm_pmc (x : Svm) (p : Panel) : (p.withSvm x).pmc = p.pmc := rfl
@[simp] theorem Panel.withSvm_lnk (x : Svm) (p : Panel) : (p.withSvm x).lnk = p.lnk := rfl

@[simp] theorem Panel.withChk_powered (x : Chk) (p : Panel) : (p.withChk x).powered = p.powered := rfl
@[simp] theorem Panel.withChk_pcu (x : Chk) (p : Panel) : (p.withChk x).pcu = p.pcu := rfl
@[simp] theorem Panel.withChk_sws (x : Chk) (p : Panel) : (p.withChk x).sws = p.sws := rfl
@[simp] theorem Panel.withChk_adc (x : Chk) (p : Panel) : (p.withChk x).adc = p.adc := rfl
@[simp] theorem Panel.withChk_dfa (x : Chk) (p : Panel) : (p.withChk x).dfa = p.dfa := rfl
@[simp] theorem Panel.withChk_trc (x : Chk) (p : Panel) : (p.withChk x).trc = p.trc := rfl
@[simp] theorem Panel.withChk_gdr (x : Chk) (p : Panel) : (p.withChk x).gdr = p.gdr := rfl
@[simp] theorem Panel.withChk_wrc (x : Chk) (p : Panel) : (p.withChk x).wrc = p.wrc := rfl
@[simp] theorem Panel.withChk_svm (x : Chk) (p : Panel) : (p.withChk x).svm = p.svm := rfl
@[simp] theorem Panel.withChk_chk (x : Chk) (p : Panel) : (p.withChk x).chk = x := rfl
@[simp] theorem Panel.withChk_nvs (x : Chk) (p : Panel) : (p.withChk x).nvs = p.nvs := rfl
@[simp] theorem Panel.withChk_pmc (x : Chk) (p : Panel) : (p.withChk x).pmc = p.pmc := rfl
@[simp] theorem Panel.withChk_lnk (x : Chk) (p : Panel) : (p.withChk x).lnk = p.lnk := rfl

@[simp] theorem Panel.withNvs_powered (x : Nvs) (p : Panel) : (p.withNvs x).powered = p.powered := rfl
@[simp] theorem Panel.withNvs_pcu (x : Nvs) (p : Panel) : (p.withNvs x).pcu = p.pcu := rfl
@[simp] theorem Panel.withNvs_sws (x : Nvs) (p : Panel) : (p.withNvs x).sws = p.sws := rfl
@[simp] theorem Panel.withNvs_adc (x : Nvs) (p : Panel) : (p.withNvs x).adc = p.adc := rfl
@[simp] theorem Panel.withNvs_dfa (x : Nvs) (p : Panel) : (p.withNvs x).dfa = p.dfa := rfl
@[simp] theorem Panel.withNvs_trc (x : Nvs) (p : Panel) : (p.withNvs x).trc = p.trc := rfl
@[simp] theorem Panel.withNvs_gdr (x : Nvs) (p : Panel) : (p.withNvs x).gdr = p.gdr := rfl
@[simp] theorem Panel.withNvs_wrc (x : Nvs) (p : Panel) : (p.withNvs x).wrc = p.wrc := rfl
@[simp] theorem Panel.withNvs_svm (x : Nvs) (p : Panel) : (p.withNvs x).svm = p.svm := rfl
@[simp] theorem Panel.withNvs_chk (x : Nvs) (p : Panel) : (p.withNvs x).chk = p.chk := rfl
@[simp] theorem Panel.withNvs_nvs (x : Nvs) (p : Panel) : (p.withNvs x).nvs = x := rfl
@[simp] theorem Panel.withNvs_pmc (x : Nvs) (p : Panel) : (p.withNvs x).pmc = p.pmc := rfl
@[simp] theorem Panel.withNvs_lnk (x : Nvs) (p : Panel) : (p.withNvs x).lnk = p.lnk := rfl

@[simp] theorem Panel.withPmc_powered (x : Pmc) (p : Panel) : (p.withPmc x).powered = p.powered := rfl
@[simp] theorem Panel.withPmc_pcu (x : Pmc) (p : Panel) : (p.withPmc x).pcu = p.pcu := rfl
@[simp] theorem Panel.withPmc_sws (x : Pmc) (p : Panel) : (p.withPmc x).sws = p.sws := rfl
@[simp] theorem Panel.withPmc_adc (x : Pmc) (p : Panel) : (p.withPmc x).adc = p.adc := rfl
@[simp] theorem Panel.withPmc_dfa (x : Pmc) (p : Panel) : (p.withPmc x).dfa = p.dfa := rfl
@[simp] theorem Panel.withPmc_trc (x : Pmc) (p : Panel) : (p.withPmc x).trc = p.trc := rfl
@[simp] theorem Panel.withPmc_gdr (x : Pmc) (p : Panel) : (p.withPmc x).gdr = p.gdr := rfl
@[simp] theorem Panel.withPmc_wrc (x : Pmc) (p : Panel) : (p.withPmc x).wrc = p.wrc := rfl
@[simp] theorem Panel.withPmc_svm (x : Pmc) (p : Panel) : (p.withPmc x).svm = p.svm := rfl
@[simp] theorem Panel.withPmc_chk (x : Pmc) (p : Panel) : (p.withPmc x).chk = p.chk := rfl
@[simp] theorem Panel.withPmc_nvs (x : Pmc) (p : Panel) : (p.withPmc x).nvs = p.nvs := rfl
@[simp] theorem Panel.withPmc_pmc (x : Pmc) (p : Panel) : (p.withPmc x).pmc = x := rfl
@[simp] theorem Panel.withPmc_lnk (x : Pmc) (p : Panel) : (p.withPmc x).lnk = p.lnk := rfl

@[simp] theorem Panel.withPorts_powered (x : PerLink LinkPort) (p : Panel) : (p.withPorts x).powered = p.powered := rfl
@[simp] theorem Panel.withPorts_pcu (x : PerLink LinkPort) (p : Panel) : (p.withPorts x).pcu = p.pcu := rfl
@[simp] theorem Panel.withPorts_sws (x : PerLink LinkPort) (p : Panel) : (p.withPorts x).sws = p.sws := rfl
@[simp] theorem Panel.withPorts_adc (x : PerLink LinkPort) (p : Panel) : (p.withPorts x).adc = p.adc := rfl
@[simp] theorem Panel.withPorts_dfa (x : PerLink LinkPort) (p : Panel) : (p.withPorts x).dfa = p.dfa := rfl
@[simp] theorem Panel.withPorts_trc (x : PerLink LinkPort) (p : Panel) : (p.withPorts x).trc = p.trc := rfl
@[simp] theorem Panel.withPorts_gdr (x : PerLink LinkPort) (p : Panel) : (p.withPorts x).gdr = p.gdr := rfl
@[simp] theorem Panel.withPorts_wrc (x : PerLink LinkPort) (p : Panel) : (p.withPorts x).wrc = p.wrc := rfl
@[simp] theorem Panel.withPorts_svm (x : PerLink LinkPort) (p : Panel) : (p.withPorts x).svm = p.svm := rfl
@[simp] theorem Panel.withPorts_chk (x : PerLink LinkPort) (p : Panel) : (p.withPorts x).chk = p.chk := rfl
@[simp] theorem Panel.withPorts_nvs (x : PerLink LinkPort) (p : Panel) : (p.withPorts x).nvs = p.nvs := rfl
@[simp] theorem Panel.withPorts_pmc (x : PerLink LinkPort) (p : Panel) : (p.withPorts x).pmc = p.pmc := rfl
@[simp] theorem Panel.withPorts_lnk (x : PerLink LinkPort) (p : Panel) : (p.withPorts x).lnk = { p.lnk with ports := x } := rfl

@[simp] theorem Panel.withPort_powered (l : Link) (x : LinkPort) (p : Panel) : (p.withPort l x).powered = p.powered := rfl
@[simp] theorem Panel.withPort_pcu (l : Link) (x : LinkPort) (p : Panel) : (p.withPort l x).pcu = p.pcu := rfl
@[simp] theorem Panel.withPort_sws (l : Link) (x : LinkPort) (p : Panel) : (p.withPort l x).sws = p.sws := rfl
@[simp] theorem Panel.withPort_adc (l : Link) (x : LinkPort) (p : Panel) : (p.withPort l x).adc = p.adc := rfl
@[simp] theorem Panel.withPort_dfa (l : Link) (x : LinkPort) (p : Panel) : (p.withPort l x).dfa = p.dfa := rfl
@[simp] theorem Panel.withPort_trc (l : Link) (x : LinkPort) (p : Panel) : (p.withPort l x).trc = p.trc := rfl
@[simp] theorem Panel.withPort_gdr (l : Link) (x : LinkPort) (p : Panel) : (p.withPort l x).gdr = p.gdr := rfl
@[simp] theorem Panel.withPort_wrc (l : Link) (x : LinkPort) (p : Panel) : (p.withPort l x).wrc = p.wrc := rfl
@[simp] theorem Panel.withPort_svm (l : Link) (x : LinkPort) (p : Panel) : (p.withPort l x).svm = p.svm := rfl
@[simp] theorem Panel.withPort_chk (l : Link) (x : LinkPort) (p : Panel) : (p.withPort l x).chk = p.chk := rfl
@[simp] theorem Panel.withPort_nvs (l : Link) (x : LinkPort) (p : Panel) : (p.withPort l x).nvs = p.nvs := rfl
@[simp] theorem Panel.withPort_pmc (l : Link) (x : LinkPort) (p : Panel) : (p.withPort l x).pmc = p.pmc := rfl
@[simp] theorem Panel.withPort_lnk (l : Link) (x : LinkPort) (p : Panel) : (p.withPort l x).lnk = { p.lnk with ports := p.lnk.ports.set l x } := rfl

@[simp] theorem notifyAll_powered (k : NoticeKind) (p : Panel) : (notifyAll k p).powered = p.powered := rfl
@[simp] theorem notifyAll_pcu (k : NoticeKind) (p : Panel) : (notifyAll k p).pcu = p.pcu := rfl
@[simp] theorem notifyAll_sws (k : NoticeKind) (p : Panel) : (notifyAll k p).sws = p.sws := rfl
@[simp] theorem notifyAll_adc (k : NoticeKind) (p : Panel) : (notifyAll k p).adc = p.adc := rfl
@[simp] theorem notifyAll_dfa (k : NoticeKind) (p : Panel) : (notifyAll k p).dfa = p.dfa := rfl
@[simp] theorem notifyAll_trc (k : NoticeKind) (p : Panel) : (notifyAll k p).trc = p.trc := rfl
@[simp] theorem notifyAll_gdr (k : NoticeKind) (p : Panel) : (notifyAll k p).gdr = p.gdr := rfl
@[simp] theorem notifyAll_wrc (k : NoticeKind) (p : Panel) : (notifyAll k p).wrc = p.wrc := rfl
@[simp] theorem notifyAll_svm (k : NoticeKind) (p : Panel) : (notifyAll k p).svm = p.svm := rfl
@[simp] theorem notifyAll_chk (k : NoticeKind) (p : Panel) : (notifyAll k p).chk = p.chk := rfl
@[simp] theorem notifyAll_nvs (k : NoticeKind) (p : Panel) : (notifyAll k p).nvs = p.nvs := rfl
@[simp] theorem notifyAll_pmc (k : NoticeKind) (p : Panel) : (notifyAll k p).pmc = p.pmc := rfl

@[simp] theorem notifyLink_powered (k : NoticeKind) (l : Link) (p : Panel) : (notifyLink k l p).powered = p.powered := rfl
@[simp] theorem notifyLink_pcu (k : NoticeKind) (l : Link) (p : Panel) : (notifyLink k l p).pcu = p.pcu := rfl
@[simp] theorem notifyLink_sws (k : NoticeKind) (l : Link) (p : Panel) : (notifyLink k l p).sws = p.sws := rfl
@[simp] theorem notifyLink_adc (k : NoticeKind) (l : Link) (p : Panel) : (notifyLink k l p).adc = p.adc := rfl
@[simp] theorem notifyLink_dfa (k : NoticeKind) (l : Link) (p : Panel) : (notifyLink k l p).dfa = p.dfa := rfl
@[simp] theorem notifyLink_trc (k : NoticeKind) (l : Link) (p : Panel) : (notifyLink k l p).trc = p.trc := rfl
@[simp] theorem notifyLink_gdr (k : NoticeKind) (l : Link) (p : Panel) : (notifyLink k l p).gdr = p.gdr := rfl
@[simp] theorem notifyLink_wrc (k : NoticeKind) (l : Link) (p : Panel) : (notifyLink k l p).wrc = p.wrc := rfl
@[simp] theorem notifyLink_svm (k : NoticeKind) (l : Link) (p : Panel) : (notifyLink k l p).svm = p.svm := rfl
@[simp] theorem notifyLink_chk (k : NoticeKind) (l : Link) (p : Panel) : (notifyLink k l p).chk = p.chk := rfl
@[simp] theorem notifyLink_nvs (k : NoticeKind) (l : Link) (p : Panel) : (notifyLink k l p).nvs = p.nvs := rfl
@[simp] theorem notifyLink_pmc (k : NoticeKind) (l : Link) (p : Panel) : (notifyLink k l p).pmc = p.pmc := rfl

@[simp] theorem notifyOthers_powered (k : NoticeKind) (l : Link) (p : Panel) : (notifyOthers k l p).powered = p.powered := rfl
@[simp] theorem notifyOthers_pcu (k : NoticeKind) (l : Link) (p : Panel) : (notifyOthers k l p).pcu = p.pcu := rfl
@[simp] theorem notifyOthers_sws (k : NoticeKind) (l : Link) (p : Panel) : (notifyOthers k l p).sws = p.sws := rfl
@[simp] theorem notifyOthers_adc (k : NoticeKind) (l : Link) (p : Panel) : (notifyOthers k l p).adc = p.adc := rfl
@[simp] theorem notifyOthers_dfa (k : NoticeKind) (l : Link) (p : Panel) : (notifyOthers k l p).dfa = p.dfa := rfl
@[simp] theorem notifyOthers_trc (k : NoticeKind) (l : Link) (p : Panel) : (notifyOthers k l p).trc = p.trc := rfl
@[simp] theorem notifyOthers_gdr (k : NoticeKind) (l : Link) (p : Panel) : (notifyOthers k l p).gdr = p.gdr := rfl
@[simp] theorem notifyOthers_wrc (k : NoticeKind) (l : Link) (p : Panel) : (notifyOthers k l p).wrc = p.wrc := rfl
@[simp] theorem notifyOthers_svm (k : NoticeKind) (l : Link) (p : Panel) : (notifyOthers k l p).svm = p.svm := rfl
@[simp] theorem notifyOthers_chk (k : NoticeKind) (l : Link) (p : Panel) : (notifyOthers k l p).chk = p.chk := rfl
@[simp] theorem notifyOthers_nvs (k : NoticeKind) (l : Link) (p : Panel) : (notifyOthers k l p).nvs = p.nvs := rfl
@[simp] theorem notifyOthers_pmc (k : NoticeKind) (l : Link) (p : Panel) : (notifyOthers k l p).pmc = p.pmc := rfl

/-- A command's effect on the part, kept alive, leaves the queue of commands. -/
@[simp] theorem State.act_powered {s : State} (f : Panel → Panel) (h : s.powered = true) :
    s.act f = .next { s with toPanel := f s.toPanel } := by simp [State.act, h]

/-- Without keep-alive a command leaves the machine as it is. -/
@[simp] theorem State.act_unpowered {s : State} (f : Panel → Panel) (h : s.powered = false) :
    s.act f = .next s := by simp [State.act, h]

end Sys2Proof.Machine
end

