-- ==== Sys2Proof/Laws/Warnings.lean ====
section
/-! SUPPORT. How far the Warning Controller's shared operations reach: the Warning Controller and notice
WARNINGS, nothing else. -/

namespace Sys2Proof.Machine

open Sys2Proof

/-! ### Notices -/

/-- A notice posted twice is posted once (R184). -/
theorem LinkPort.notify_notify (k : NoticeKind) (port : LinkPort) :
    (port.notify k).notify k = port.notify k := by
  simp [LinkPort.notify, BitVec.or_assoc]

@[simp] theorem notifyAll_notifyAll (k : NoticeKind) (p : Panel) : notifyAll k (notifyAll k p) = notifyAll k p := by
  simp [notifyAll, Panel.withPorts, PerLink.map, LinkPort.notify_notify]
@[simp] theorem notifyAll_withWrc (k : NoticeKind) (w : Wrc) (p : Panel) :
    notifyAll k (p.withWrc w) = (notifyAll k p).withWrc w := rfl

/-! ### `WarningsOnly` as a relation -/

/-- An operation that changes nothing reaches nowhere. -/
theorem WarningsOnly.refl (p : Panel) : WarningsOnly p p := ⟨rfl, .inl rfl⟩

/-- A change of the Warning Controller. -/
theorem WarningsOnly.withWrc (p : Panel) (w : Wrc) : WarningsOnly p (p.withWrc w) := ⟨rfl, .inl rfl⟩

/-- Notice WARNINGS to all links. -/
theorem WarningsOnly.notify (p : Panel) : WarningsOnly p (notifyAll .warnings p) := ⟨rfl, .inr rfl⟩

/-- What follows one another reaches no further. -/
theorem WarningsOnly.trans {p q r : Panel} (h : WarningsOnly p q) (k : WarningsOnly q r) : WarningsOnly p r := by
  obtain ⟨hq, hl⟩ := h
  obtain ⟨hr, hm⟩ := k
  refine ⟨by rw [hr, hq], ?_⟩
  have hn : (notifyAll .warnings q).lnk = { q.lnk with ports := PerLink.map (LinkPort.notify .warnings) q.lnk.ports } := rfl
  rcases hm with hm | hm
  · rw [hm]; exact hl
  · right
    rw [hm, hn]
    rcases hl with hl | hl
    · rw [hl]; rfl
    · rw [hl]
      exact congrArg Panel.lnk (notifyAll_notifyAll .warnings p)

/-- A list of operations that reach no further than the warnings. -/
theorem WarningsOnly.foldl {α : Type} (f : Panel → α → Panel) (h : ∀ p a, WarningsOnly p (f p a)) :
    ∀ (l : List α) (p : Panel), WarningsOnly p (l.foldl f p)
  | [], p => WarningsOnly.refl p
  | a :: l, p => (h p a).trans (WarningsOnly.foldl f h l (f p a))

/-! ### The shared operations -/

theorem settleLamps_only (p : Panel) : WarningsOnly p (settleLamps p) := .withWrc p _

theorem settleWarnings_only (p : Panel) : WarningsOnly p (settleWarnings p) :=
  (WarningsOnly.withWrc p _).trans (settleLamps_only _)

theorem raiseState_only (k : WarningKind) (p : Panel) : WarningsOnly p (raiseState k p) :=
  (WarningsOnly.withWrc p _).trans (.notify _)

theorem removeEntry_only (k : WarningKind) (p : Panel) : WarningsOnly p (removeEntry k p) :=
  (WarningsOnly.withWrc p _).trans (.notify _)

theorem judgeRemoval_only (k : WarningKind) (p : Panel) : WarningsOnly p (judgeRemoval k p) := by
  unfold judgeRemoval
  split
  · split
    · exact removeEntry_only k p
    · exact .refl p
  · exact .refl p

theorem lowerState_only (k : WarningKind) (p : Panel) : WarningsOnly p (lowerState k p) :=
  (WarningsOnly.withWrc p _).trans (judgeRemoval_only k _)

theorem raiseEvent_only (k : WarningKind) (p : Panel) : WarningsOnly p (raiseEvent k p) := by
  unfold raiseEvent
  split
  · exact .refl p
  · split
    · exact ((WarningsOnly.withWrc p _).trans (.notify _)).trans (settleWarnings_only _)
    · exact (((WarningsOnly.withWrc p _).trans (.notify _)).trans (judgeRemoval_only k _)).trans (settleWarnings_only _)

theorem judgeKind_only (k : WarningKind) (p : Panel) : WarningsOnly p (judgeKind k p) := by
  simp only [judgeKind]
  split
  · exact .refl p
  · split
    · exact (WarningsOnly.withWrc p _).trans (raiseState_only k _)
    · exact (WarningsOnly.withWrc p _).trans (lowerState_only k _)

theorem judgeLevels_only (p : Panel) : WarningsOnly p (judgeLevels p) :=
  (WarningsOnly.withWrc p _).trans
    (WarningsOnly.foldl (fun q k => judgeKind k q) (fun q k => judgeKind_only k q) stateKinds _)

/-- All that a judgement of the warnings can change. -/
theorem judgeWarnings_only (p : Panel) : WarningsOnly p (judgeWarnings p) :=
  (judgeLevels_only p).trans (settleWarnings_only _)

/-- All that the Warning Controller's taking of a calibration can change. -/
theorem takeCalibrationWarnings_only (p : Panel) : WarningsOnly p (takeCalibrationWarnings p) := by
  refine ((judgeLevels_only p).trans (WarningsOnly.foldl _ (fun q k => ?_) allKinds _)).trans (settleWarnings_only _)
  split
  · exact removeEntry_only k q
  · exact .refl q

theorem lampResult_only (l : Lamp) (r : CheckResult) (p : Panel) : WarningsOnly p (lampResult l r p) :=
  (WarningsOnly.withWrc p _).trans (settleLamps_only _)

theorem acknowledge_reach (l : Link) (k : WarningKind) (e : WarningEntry) (p : Panel) :
    ∃ q, (q = p ∨ q = notifyOthers .warnings l p) ∧ WarningsOnly q (acknowledge l k e p) := by
  refine ⟨if ackChanges (ackSounders l k) e then notifyOthers .warnings l p else p, ?_, ?_⟩
  · split
    · exact .inr rfl
    · exact .inl rfl
  · simp only [acknowledge]
    split
    · exact ((WarningsOnly.withWrc (notifyOthers .warnings l p) _).trans (judgeRemoval_only k _)).trans
        (settleWarnings_only _)
    · exact ((WarningsOnly.withWrc p _).trans (judgeRemoval_only k _)).trans (settleWarnings_only _)

theorem makeRearQuiet_only (p : Panel) : WarningsOnly p (makeRearQuiet p) :=
  ((WarningsOnly.withWrc p _).trans
    (WarningsOnly.foldl (fun q k => judgeRemoval k q) (fun q k => judgeRemoval_only k q) _ _)).trans
    (settleWarnings_only _)

end Sys2Proof.Machine
end

