-- ==== Sys2Proof/Laws/Judgement.lean ====
section
/-! SUPPORT. What a judgement of the warnings comes to, said once (`judgeWarnings_judged`), and the small lemmas of the
active warning list, the levels and the players behind it. -/

namespace Sys2Proof.Machine

open Sys2Proof

/-! ### The list and the levels -/

/-- The number of a kind is its own. -/
theorem kindNumber_inj {j k : WarningKind} (h : kindNumber j = kindNumber k) : j = k := by
  cases j <;> cases k <;> first | rfl | simp [kindNumber] at h

/-- R100: an insertion gives its kind the entry inserted and leaves the others. -/
theorem find_insertEntry (e : WarningEntry) (j : WarningKind) : ∀ l : List WarningEntry,
    (insertEntry e l).find? (fun f => f.kind == j) = if j = e.kind then some e else l.find? (fun f => f.kind == j)
  | [] => by
    rw [insertEntry]
    by_cases h : e.kind = j
    · simp [h]
    · simp [h, Ne.symm h]
  | f :: rest => by
    have ih := find_insertEntry e j rest
    rw [insertEntry]
    by_cases h : j = e.kind
    · subst h
      split
      · simp
      · split
        · simp
        · have hf : f.kind ≠ e.kind := fun hk => ‹¬kindNumber e.kind = kindNumber f.kind› (by rw [hk])
          rw [List.find?_cons_of_neg (by simpa using hf), ih]
          simp
    · have he : e.kind ≠ j := fun hk => h hk.symm
      simp only [h, if_false] at ih ⊢
      split
      · rw [List.find?_cons_of_neg (by simpa using he)]
      · split
        · have hk : f.kind ≠ j := by rw [← kindNumber_inj ‹kindNumber e.kind = kindNumber f.kind›]; exact he
          rw [List.find?_cons_of_neg (by simpa using he), List.find?_cons_of_neg (by simpa using hk)]
        · by_cases hf : f.kind = j
          · rw [List.find?_cons_of_pos (by simpa using hf), List.find?_cons_of_pos (by simpa using hf)]
          · rw [List.find?_cons_of_neg (by simpa using hf), List.find?_cons_of_neg (by simpa using hf), ih]

/-- The entry of a kind after a change of one kind's entry. -/
theorem Wrc.entry_modifyEntry (w : Wrc) (j k : WarningKind) (f : WarningEntry → WarningEntry)
    (hf : ∀ e, (f e).kind = e.kind) :
    (w.modifyEntry k f).entry j = if j = k then (w.entry k).map f else w.entry j := by
  simp only [Wrc.entry, Wrc.modifyEntry]
  induction w.entries with
  | nil => simp
  | cons e rest ih =>
    rw [List.map_cons]
    by_cases hk : e.kind = k
    · simp only [hk, beq_self_eq_true, if_true]
      by_cases hj : j = k
      · rw [List.find?_cons_of_pos (by simp [hf, hk, hj]), if_pos hj,
          List.find?_cons_of_pos (by simp [hk])]
        rfl
      · have hn : ¬k = j := fun h => hj h.symm
        simp only [hj, if_false] at ih ⊢
        rw [List.find?_cons_of_neg (by simpa [hf, hk] using hn), List.find?_cons_of_neg (by simpa [hk] using hn)]
        exact ih
    · have hb : (e.kind == k) = false := by simpa using hk
      simp only [hb, Bool.false_eq_true, if_false]
      by_cases hj : e.kind = j
      · have : ¬j = k := fun h => hk (hj.trans h)
        rw [List.find?_cons_of_pos (by simpa using hj), if_neg this, List.find?_cons_of_pos (by simpa using hj)]
      · rw [List.find?_cons_of_neg (by simpa using hj), ih,
          List.find?_cons_of_neg (p := fun e : WarningEntry => e.kind == k) (by simpa using hk),
          List.find?_cons_of_neg (by simpa using hj)]

/-- R103: the entry of a kind after a removal. -/
theorem Wrc.entry_dropEntry (w : Wrc) (j k : WarningKind) :
    (w.dropEntry k).entry j = if j = k then none else w.entry j := by
  simp only [Wrc.entry, Wrc.dropEntry]
  induction w.entries with
  | nil => simp
  | cons e rest ih =>
    by_cases hk : e.kind = k
    · rw [List.filter_cons_of_neg (by simp [hk]), ih]
      by_cases hj : j = k
      · simp [hj]
      · have hn : ¬e.kind = j := fun h => hj (h.symm.trans hk)
        simp only [hj, if_false]
        rw [List.find?_cons_of_neg (by simpa using hn)]
    · rw [List.filter_cons_of_pos (by simpa using hk)]
      by_cases hj : e.kind = j
      · have : ¬j = k := fun h => hk (hj.trans h)
        rw [List.find?_cons_of_pos (by simpa using hj), if_neg this, List.find?_cons_of_pos (by simpa using hj)]
      · rw [List.find?_cons_of_neg (by simpa using hj), ih, List.find?_cons_of_neg (by simpa using hj)]

/-- The levels after one kind's level is set. -/
theorem ConditionLevels.get_set (c : ConditionLevels) (j k : WarningKind) (v : Bool) (hk : isEvent k = false) :
    (c.set k v).get j = if j = k then v else c.get j := by
  cases k <;> first | exact absurd hk (by decide) | (cases j <;> simp [ConditionLevels.set, ConditionLevels.get])

@[simp] theorem ConditionLevels.set_batteryLow (c : ConditionLevels) (k : WarningKind) (v : Bool) :
    (c.set k v).batteryLow = c.batteryLow := by cases k <;> rfl
@[simp] theorem ConditionLevels.set_batteryHigh (c : ConditionLevels) (k : WarningKind) (v : Bool) :
    (c.set k v).batteryHigh = c.batteryHigh := by cases k <;> rfl

theorem holdsOf_iff {α : Type} (v : Option α) (test : α → Bool) :
    holdsOf v test = true ↔ ∃ x, v = some x ∧ test x = true := by
  cases v <;> simp [holdsOf]

theorem DueState.isDue_iff (d : DueState) : d.isDue = true ↔ d = .due ∨ d = .overdue := by
  cases d <;> simp [DueState.isDue]

theorem deliveredRange_iff (p : Panel) (P : Nat → Prop) :
    (∃ r, deliveredRange p = some r ∧ P r) ↔ ∃ r, p.trc.lastRange = some (some r) ∧ P r := by
  unfold deliveredRange
  cases p.trc.lastRange <;> simp

theorem serviceDueIndication_iff (p : Panel) :
    serviceDueIndication p = true ↔ ∃ i, (p.svm.items.get i).state = .due ∨ (p.svm.items.get i).state = .overdue := by
  simp only [serviceDueIndication, List.any_eq_true, DueState.isDue_iff]
  exact ⟨fun ⟨i, _, h⟩ => ⟨i, h⟩, fun ⟨i, h⟩ => ⟨i, by cases i <;> decide, h⟩⟩

/-- R94 to R97: the set tests. -/
theorem setTest_iff (p : Panel) (k : WarningKind) : setTest p k = true ↔ SetTest p k := by
  cases k
  case lowFuel =>
    simp only [setTest, SetTest, Bool.or_eq_true, holdsOf_iff, decide_eq_true_eq, deliveredRange_iff]
  case serviceDue => exact serviceDueIndication_iff p
  all_goals
    simp [setTest, SetTest, holdsOf_iff, senderFault, PerSender.get, and_assoc]

/-- R94 to R97: the clear tests. -/
theorem clearTest_iff (p : Panel) (k : WarningKind) : clearTest p k = true ↔ ClearTest p k := by
  cases k
  case lowFuel =>
    simp only [clearTest, ClearTest, Bool.and_eq_true, holdsOf_iff, decide_eq_true_eq, deliveredRange_iff]
  case overheat => simp [clearTest, ClearTest, holdsOf_iff, senderFault, PerSender.get]
  case doorMoving => simp [clearTest, ClearTest]
  case overspeed => simp [clearTest, ClearTest]
  all_goals simp only [clearTest, ClearTest, Bool.not_eq_true', ← setTest_iff, Bool.not_eq_true]


/-! ### A judgement of the levels, said once -/

/-- The part with its Warning Controller replaced, and with notice WARNINGS posted to all links or not. -/
def Panel.rewarned (p : Panel) (w : Wrc) (noticed : Bool) : Panel :=
  if noticed then notifyAll .warnings (p.withWrc w) else p.withWrc w

@[simp] theorem Panel.rewarned_wrc (p : Panel) (w : Wrc) (n : Bool) : (p.rewarned w n).wrc = w := by
  cases n <;> rfl
@[simp] theorem Panel.rewarned_svm (p : Panel) (w : Wrc) (n : Bool) : (p.rewarned w n).svm = p.svm := by
  cases n <;> rfl
@[simp] theorem Panel.rewarned_withWrc (p : Panel) (v w : Wrc) (n : Bool) :
    (p.rewarned v n).withWrc w = p.rewarned w n := by
  cases n <;> rfl
@[simp] theorem Panel.rewarned_rewarned (p : Panel) (v w : Wrc) (n m : Bool) :
    (p.rewarned v n).rewarned w m = p.rewarned w (n || m) := by
  cases n <;> cases m <;> simp [Panel.rewarned] <;> rfl

/-- R102: a player when the list has come from `w`'s to `w'`'s, before its selection is looked at. -/
def Player.outlive (w w' : Wrc) (pl : Player) : Player :=
  match pl.state with
  | .strike k step => if w.entry k ≠ none ∧ w'.entry k = none then { pl with state := .ending k step } else pl
  | _ => pl

/-- `w` is `p`'s Warning Controller with the levels of the kinds `ks` judged on the values of `p`. -/
structure LevelsJudged (ks : List WarningKind) (p : Panel) (w : Wrc) : Prop where
  level : ∀ j, w.levels.get j = if j ∈ ks then nextLevel p j else p.wrc.levels.get j
  low : w.levels.batteryLow = p.wrc.levels.batteryLow
  high : w.levels.batteryHigh = p.wrc.levels.batteryHigh
  entry : ∀ j, w.entry j =
    if w.levels.get j = p.wrc.levels.get j then p.wrc.entry j
    else if w.levels.get j then some (raisedEntry p.wrc p.svm.timeOfDay j) else none
  player : ∀ sd, w.players.get sd = (p.wrc.players.get sd).outlive p.wrc w
  rest : w = { p.wrc with levels := w.levels, entries := w.entries, players := w.players }

/-- A level's tests read nothing that a judgement of the warnings changes, once BATTERY's parts are judged. -/
theorem tests_rewarned {p : Panel} {w : Wrc} (j : WarningKind) (n : Bool)
    (hl : w.levels.batteryLow = p.wrc.levels.batteryLow) (hh : w.levels.batteryHigh = p.wrc.levels.batteryHigh)
    (hr : w = { p.wrc with
      levels := w.levels, entries := w.entries, players := w.players, lamps := w.lamps }) :
    setTest (p.rewarned w n) j = setTest p j ∧ clearTest (p.rewarned w n) j = clearTest p j ∧
      kindActive (p.rewarned w n) j = kindActive p j := by
  have hb : w.beltWindow = p.wrc.beltWindow := by rw [hr]
  have ho : w.overspeedSetpoint = p.wrc.overspeedSetpoint := by rw [hr]
  have hg : w.linkGraceTimer = p.wrc.linkGraceTimer := by rw [hr]
  have hs : setTest (p.rewarned w n) j = setTest p j := by
    cases n <;> cases j <;>
      simp [setTest, Panel.rewarned, hb, ho, hg, hl, hh] <;> rfl
  refine ⟨hs, ?_, by cases n <;> rfl⟩
  cases j
  case overheat => cases n <;> rfl
  case doorMoving => cases n <;> rfl
  case lowFuel => cases n <;> rfl
  case overspeed => simp only [clearTest, Panel.rewarned_wrc, ho]; cases n <;> rfl
  all_goals simp only [clearTest, hs]

/-- A judgement of a level reads nothing that a judgement of another level changes. -/
theorem nextLevel_rewarned {p : Panel} {w : Wrc} {j : WarningKind} (n : Bool)
    (hj : w.levels.get j = p.wrc.levels.get j) (hl : w.levels.batteryLow = p.wrc.levels.batteryLow)
    (hh : w.levels.batteryHigh = p.wrc.levels.batteryHigh)
    (hr : w = { p.wrc with
      levels := w.levels, entries := w.entries, players := w.players, lamps := w.lamps }) :
    nextLevel (p.rewarned w n) j = nextLevel p j := by
  obtain ⟨hs, hc, ha⟩ := tests_rewarned j n hl hh hr
  simp only [nextLevel, hs, hc, ha, Panel.rewarned_wrc, hj]

/-- R93: a level judged afresh. -/
theorem nextLevel_judged (p : Panel) (k : WarningKind) :
    LevelJudged (kindActive p k = true) (SetTest p k) (ClearTest p k) (p.wrc.levels.get k) (nextLevel p k) := by
  unfold LevelJudged nextLevel
  rw [← setTest_iff, ← clearTest_iff]
  cases kindActive p k <;> cases p.wrc.levels.get k <;> simp

/-- A judgement of the levels leaves the lamps. -/
theorem LevelsJudged.keeps {ks : List WarningKind} {p : Panel} {w : Wrc} (h : LevelsJudged ks p w) :
    w = { p.wrc with levels := w.levels, entries := w.entries, players := w.players, lamps := w.lamps } := by
  have : w.lamps = p.wrc.lamps := by rw [h.rest]
  rw [this]; exact h.rest

/-- R100, R104: the fresh entry of a kind. -/
theorem freshEntry_eq (p : Panel) (k : WarningKind) : freshEntry p k = raisedEntry p.wrc p.svm.timeOfDay k := by
  simp [freshEntry, raisedEntry, Wrc.freshPending, Wrc.withholds, PerSounder.of, PerSounder.get]

/-- R103: a STATE kind's entry is removed at its level's fall. -/
theorem finished_of_fall (e : WarningEntry) (h : isEvent e.kind = false) :
    ({ e with conditionPresent := false, pending := ⟨false, false⟩, resound := none } : WarningEntry).finished = true := by
  have : isLatching e.kind = false := by
    cases hk : e.kind <;> rw [hk] at h <;> first | decide | exact absurd h (by decide)
  simp [WarningEntry.finished, this]

/-- An entry has its own kind. -/
theorem Wrc.kind_of_entry {w : Wrc} {k : WarningKind} {e : WarningEntry} (h : w.entry k = some e) : e.kind = k := by
  simpa using List.find?_some h

theorem Player.outlive_strike {w w' : Wrc} {pl : Player} {k : WarningKind} {step : Nat} (h : pl.state = .strike k step) :
    pl.outlive w w' =
      if w.entry k ≠ none ∧ w'.entry k = none then { pl with state := .ending k step } else pl := by
  simp only [Player.outlive, h]

theorem Player.outlive_other {w w' : Wrc} {pl : Player} (h : ∀ k step, pl.state ≠ .strike k step) :
    pl.outlive w w' = pl := by
  unfold Player.outlive
  split
  · exact absurd ‹_› (h _ _)
  · rfl

/-- R102: a removal abandons the strikes begun for its kind. -/
theorem Player.abandon_eq {w w' : Wrc} {k : WarningKind} (pl : Player) (hk : w.entry k ≠ none)
    (h : ∀ j, w'.entry j = if j = k then none else w.entry j) : pl.abandon k = pl.outlive w w' := by
  by_cases hs : ∃ j step, pl.state = .strike j step
  · obtain ⟨j, step, hs⟩ := hs
    rw [Player.outlive_strike hs, h]
    simp only [Player.abandon, hs]
    by_cases hj : j = k
    · subst hj; simp [hk]
    · simp [hj]
  · rw [Player.outlive_other (fun j step h => hs ⟨j, step, h⟩)]
    unfold Player.abandon
    split
    · exact absurd ⟨_, _, ‹_›⟩ hs
    · rfl

/-- R102: a Warning Controller whose entry of a kind has lost its condition. -/
def Wrc.lowered (k : WarningKind) (w : Wrc) : Wrc :=
  w.modifyEntry k fun e => { e with conditionPresent := false, pending := ⟨false, false⟩, resound := none }

/-- R102, R103: a STATE kind's level falls: its entry is removed, if it has one. -/
theorem lowerState_eq (k : WarningKind) (p : Panel) (hk : isEvent k = false) :
    lowerState k p = if p.wrc.entry k = none then p.withWrc (p.wrc.lowered k)
      else p.rewarned ((p.wrc.lowered k).dropEntry k) true := by
  have hm := Wrc.entry_modifyEntry p.wrc k k
    (fun e => { e with conditionPresent := false, pending := ⟨false, false⟩, resound := none }) (fun _ => rfl)
  simp only [lowerState, judgeRemoval, Panel.withWrc_wrc, hm, if_true]
  cases he : p.wrc.entry k with
  | none => rfl
  | some e => simp [finished_of_fall e (by rw [Wrc.kind_of_entry he]; exact hk), removeEntry, Panel.rewarned]; rfl

/-- A player whose list stands goes on. -/
theorem Player.outlive_of_kept {w w' : Wrc} (h : ∀ k, w.entry k ≠ none → w'.entry k ≠ none) (pl : Player) :
    pl.outlive w w' = pl := by
  unfold Player.outlive
  split
  · rw [if_neg (fun hn => h _ hn.1 hn.2)]
  · rfl

/-- What the judgement of one level comes to. -/
theorem judgeKind_judged (k : WarningKind) (p : Panel) (hk : isEvent k = false) :
    ∃ w n, judgeKind k p = p.rewarned w n ∧ LevelsJudged [k] p w ∧ ((∃ j, w.entry j ≠ p.wrc.entry j) → n = true) ∧
      (w.levels.get k = p.wrc.levels.get k → n = false) := by
  simp only [judgeKind]
  split
  · rename_i hl
    refine ⟨p.wrc, false, rfl, ⟨fun j => ?_, rfl, rfl, fun j => by simp, fun sd => ?_, rfl⟩, by simp, fun _ => rfl⟩
    · by_cases h : j = k <;> simp [h, hl]
    · exact (Player.outlive_of_kept (fun _ h => h) _).symm
  · rename_i hl
    have hget : ∀ j, (p.wrc.levels.set k (nextLevel p k)).get j = if j = k then nextLevel p k else p.wrc.levels.get j :=
      fun j => ConditionLevels.get_set _ j k _ hk
    split
    · rename_i hup
      have hentry : ∀ j, ({ p.wrc with
            levels := p.wrc.levels.set k (nextLevel p k)
            entries := insertEntry (raisedEntry p.wrc p.svm.timeOfDay k) p.wrc.entries } : Wrc).entry j =
          if j = k then some (raisedEntry p.wrc p.svm.timeOfDay k) else p.wrc.entry j :=
        fun j => find_insertEntry _ j _
      refine ⟨{ p.wrc with
            levels := p.wrc.levels.set k (nextLevel p k)
            entries := insertEntry (raisedEntry p.wrc p.svm.timeOfDay k) p.wrc.entries }, true, ?_,
        ⟨fun j => ?_, ConditionLevels.set_batteryLow .., ConditionLevels.set_batteryHigh .., fun j => ?_,
          fun sd => ?_, rfl⟩, fun _ => rfl, fun h => ?_⟩
      · simp only [raiseState, freshEntry_eq, Panel.rewarned, if_true]
        rfl
      · simp only [hget, List.mem_singleton]
        by_cases h : j = k <;> simp [h]
      · rw [hentry]
        simp only [hget]
        by_cases h : j = k
        · subst h; rw [if_pos rfl, if_pos rfl, if_neg hl, hup]; rfl
        · simp [h]
      · refine (Player.outlive_of_kept (fun j h => ?_) _).symm
        rw [hentry]
        split <;> simp_all
      · exact absurd (by simpa [hget] using h) hl
    · rename_i hdown
      have hdown : nextLevel p k = false := by simpa using hdown
      have hlow : ∀ j, ({ p.wrc with levels := p.wrc.levels.set k (nextLevel p k) } : Wrc).entry j = p.wrc.entry j :=
        fun _ => rfl
      have hmod : ∀ j, j ≠ k →
          (({ p.wrc with levels := p.wrc.levels.set k (nextLevel p k) } : Wrc).lowered k).entry j = p.wrc.entry j :=
        fun j h => by rw [Wrc.lowered, Wrc.entry_modifyEntry, if_neg h] <;> first | rfl | exact fun _ => rfl
      have hlev : ∀ j, (if (p.wrc.levels.set k (nextLevel p k)).get j = p.wrc.levels.get j then p.wrc.entry j
          else if (p.wrc.levels.set k (nextLevel p k)).get j then some (raisedEntry p.wrc p.svm.timeOfDay j) else none)
          = if j = k then none else p.wrc.entry j := by
        intro j
        rw [hget]
        by_cases h : j = k
        · subst h; rw [if_pos rfl, if_neg hl, hdown]; simp
        · simp [h]
      rw [lowerState_eq k _ hk]
      split
      · rename_i he
        have he : p.wrc.entry k = none := he
        have hent : ∀ j,
            (({ p.wrc with levels := p.wrc.levels.set k (nextLevel p k) } : Wrc).lowered k).entry j =
              if j = k then none else p.wrc.entry j := by
          intro j
          by_cases h : j = k
          · subst h
            rw [if_pos rfl, Wrc.lowered, Wrc.entry_modifyEntry, if_pos rfl, hlow, he] <;>
              first | rfl | exact fun _ => rfl
          · rw [if_neg h]; exact hmod j h
        refine ⟨_, false, rfl, ⟨fun j => ?_, ConditionLevels.set_batteryLow .., ConditionLevels.set_batteryHigh ..,
          fun j => (hent j).trans (hlev j).symm, fun sd => (Player.outlive_of_kept (fun j h => ?_) _).symm, rfl⟩, ?_,
          fun _ => rfl⟩
        · exact (hget j).trans (by by_cases h : j = k <;> simp [h])
        · intro hn
          have hn := (hent j).symm.trans hn
          by_cases hj : j = k
          · subst hj; exact h he
          · rw [if_neg hj] at hn; exact h hn
        · rintro ⟨j, hj⟩
          refine absurd ((hent j).trans ?_) hj
          by_cases h : j = k <;> simp [h, he]
      · rename_i he
        have he : p.wrc.entry k ≠ none := he
        have hent : ∀ j,
            ((({ p.wrc with levels := p.wrc.levels.set k (nextLevel p k) } : Wrc).lowered k).dropEntry k).entry j =
              if j = k then none else p.wrc.entry j := by
          intro j
          rw [Wrc.entry_dropEntry]
          by_cases h : j = k
          · simp [h]
          · simp only [h, if_false]; exact hmod j h
        refine ⟨_, true, rfl, ⟨fun j => ?_, ConditionLevels.set_batteryLow .., ConditionLevels.set_batteryHigh ..,
          fun j => (hent j).trans (hlev j).symm, fun sd => ?_, rfl⟩, fun _ => rfl, fun h => ?_⟩
        · exact (hget j).trans (by by_cases h : j = k <;> simp [h])
        · cases sd <;> exact Player.abandon_eq _ he hent
        · exact absurd ((hget k).symm.trans h) (by simpa using hl)

/-- What the judgement of some of the levels comes to. -/
theorem judgeKinds_judged : ∀ (ks : List WarningKind) (p : Panel), ks.Nodup → (∀ k ∈ ks, isEvent k = false) →
    ∃ w n, ks.foldl (fun q k => judgeKind k q) p = p.rewarned w n ∧ LevelsJudged ks p w ∧
      ((∃ j, w.entry j ≠ p.wrc.entry j) → n = true) ∧ ((∀ j, w.levels.get j = p.wrc.levels.get j) → n = false)
  | [], p, _, _ =>
    ⟨p.wrc, false, rfl, ⟨by simp, rfl, rfl, by simp, fun sd => (Player.outlive_of_kept (fun _ h => h) _).symm, rfl⟩,
      by simp, fun _ => rfl⟩
  | k :: ks, p, hd, he => by
    obtain ⟨hk, hd⟩ := List.nodup_cons.mp hd
    obtain ⟨v, n, hv, hj, hn, hq⟩ := judgeKind_judged k p (he k (by simp))
    obtain ⟨w, m, hw, hjw, hm, hqw⟩ := judgeKinds_judged ks (p.rewarned v n) hd (fun j h => he j (by simp [h]))
    obtain ⟨jl, jlow, jhigh, je, jp, jr⟩ := hjw
    simp only [Panel.rewarned_wrc, Panel.rewarned_svm] at jl jlow jhigh je jp jr hm hqw
    have hkeep : ∀ j, j ≠ k → v.levels.get j = p.wrc.levels.get j ∧ v.entry j = p.wrc.entry j := by
      intro j h
      have hjv := hj.level j
      simp only [List.mem_singleton, h, if_false] at hjv
      exact ⟨hjv, by rw [hj.entry j, if_pos hjv]⟩
    have hstay : w.levels.get k = v.levels.get k ∧ w.entry k = v.entry k := by
      have := jl k
      simp only [hk, if_false] at this
      exact ⟨this, by rw [je k]; simp [this]⟩
    have hquiet : raisedEntry v = raisedEntry p.wrc := by
      have : v.rearQuiet = p.wrc.rearQuiet := by rw [hj.rest]
      funext t j
      simp [raisedEntry, this]
    refine ⟨w, n || m, ?_, ⟨fun j => ?_, jlow.trans hj.low, jhigh.trans hj.high, fun j => ?_, fun sd => ?_, ?_⟩,
      ?_, ?_⟩
    · rw [List.foldl_cons, hv, hw, Panel.rewarned_rewarned]
    · by_cases h : j = k
      · subst h; rw [hstay.1, hj.level j]; simp
      · rw [jl j, nextLevel_rewarned n (hkeep j h).1 hj.low hj.high hj.keeps]
        simp [h, (hkeep j h).1]
    · by_cases h : j = k
      · subst h; rw [hstay.2, hstay.1]; exact hj.entry j
      · rw [je j, (hkeep j h).1, (hkeep j h).2, hquiet]
    · rw [jp sd, hj.player sd]
      by_cases hs : ∃ j step, (p.wrc.players.get sd).state = .strike j step
      · obtain ⟨j, step, hs⟩ := hs
        by_cases h : j = k
        · subst h
          rw [Player.outlive_strike (w' := v) hs, Player.outlive_strike (w' := w) hs, hstay.2]
          split
          · exact Player.outlive_other (by simp)
          · rw [Player.outlive_strike hs, hstay.2]
            exact if_neg (fun hn => hn.1 hn.2)
        · rw [Player.outlive_strike (w' := v) hs, if_neg (by rw [(hkeep j h).2]; exact fun hn => hn.1 hn.2),
            Player.outlive_strike hs, Player.outlive_strike hs, (hkeep j h).2]
      · have hs : ∀ k step, (p.wrc.players.get sd).state ≠ .strike k step := fun j step h => hs ⟨j, step, h⟩
        rw [Player.outlive_other hs, Player.outlive_other hs, Player.outlive_other hs]
    · rw [jr, hj.rest]
    · rintro ⟨j, h⟩
      by_cases hjk : j = k
      · subst hjk; rw [hstay.2] at h; simp [hn ⟨j, h⟩]
      · rw [← (hkeep j hjk).2] at h; simp [hm ⟨j, h⟩]
    · intro h
      have h1 := hq (hstay.1.symm.trans (h k))
      have h2 : m = false := hqw fun j => by
        by_cases hjk : j = k
        · subst hjk; exact hstay.1
        · exact (h j).trans (hkeep j hjk).1.symm
      simp [h1, h2]

/-- R94: the two parts of BATTERY judged afresh. -/
theorem batteryParts_judged (p : Panel) :
    LevelJudged (kindActive p .battery = true)
      ((∃ v, p.adc.batteryVoltage = some v ∧ v < 115) ∧ 10 ≤ p.pcu.engineRunTime)
      ((∃ v, p.adc.batteryVoltage = some v ∧ 118 ≤ v) ∨ p.pcu.engineRunTime < 10)
      p.wrc.levels.batteryLow (nextBatteryLow p) ∧
    LevelJudged (kindActive p .battery = true)
      (∃ v, p.adc.batteryVoltage = some v ∧ 155 < v) (∃ v, p.adc.batteryVoltage = some v ∧ v ≤ 152)
      p.wrc.levels.batteryHigh (nextBatteryHigh p) := by
  unfold LevelJudged nextBatteryLow nextBatteryHigh
  constructor
  · cases kindActive p .battery <;> cases p.wrc.levels.batteryLow <;> cases p.adc.batteryVoltage <;> simp [holdsOf]
  · cases kindActive p .battery <;> cases p.wrc.levels.batteryHigh <;> cases p.adc.batteryVoltage <;> simp [holdsOf]

/-- R110, R111: the players follow the list. -/
theorem Player.settle_outlive (w w' : Wrc) (sd : Sounder) (pl : Player) :
    (pl.outlive w w').settle (w'.selection sd) = pl.follows w w' sd := by
  cases h : pl.state <;> simp only [Player.outlive, Player.follows, h]
  case strike k step => split <;> simp [Player.settle, h]
  all_goals simp only [Player.settle, h, startSelection, Player.idle]
  all_goals cases w'.selection sd <;> rfl

/-- R184: a notice posted to all links stands in every link's set. -/
theorem notifyAll_noticed (k : NoticeKind) (l : Link) (p : Panel) : Noticed k l (notifyAll k p) := by
  have : ∀ x b : BitVec 9, (x ||| b) &&& b = b := fun x b => by ext i; simpa using Or.inr
  cases l <;> exact this _ _

/-- R93 to R102, R110, R111, R114, R115: what a judgement of the warnings comes to. -/
theorem judgeWarnings_judged (p : Panel) : WarningsJudged p (judgeWarnings p) := by
  obtain ⟨w, n, hw, hj, hn, hq⟩ := judgeKinds_judged stateKinds (judgeBatteryParts p) (by decide) (by decide)
  obtain ⟨v, hv, hlv, hen, hpl, hla, hre⟩ : ∃ v : Wrc, judgeWarnings p = p.rewarned v n ∧ v.levels = w.levels ∧
      v.entries = w.entries ∧ (∀ sd, v.players.get sd = (w.players.get sd).settle (w.selection sd)) ∧
      (∀ l, v.lamps.get l = ⟨lampWanted (p.rewarned v n) l, (p.wrc.lamps.get l).blocked,
        lampUnderTest (p.rewarned v n) l || (lampWanted (p.rewarned v n) l && !(p.wrc.lamps.get l).blocked)⟩) ∧
      v = { p.wrc with levels := v.levels, entries := v.entries, players := v.players, lamps := v.lamps } := by
    have hr := hj.rest
    refine ⟨{ w.settlePlayers with lamps := PerLamp.of (judgeLamp (p.rewarned w.settlePlayers n)) }, ?_, rfl, rfl,
      fun sd => by cases sd <;> rfl, fun l => ?_, ?_⟩
    · show settleWarnings (judgeLevels p) = _
      rw [show judgeLevels p = _ from hw]
      cases n <;> rfl
    · have hb : (w.lamps.get l).blocked = (p.wrc.lamps.get l).blocked := by rw [hr]; rfl
      rw [← hb]
      cases n <;> cases l <;> rfl
    · rw [hr]; rfl
  have hentry : ∀ k, v.entry k = w.entry k := fun k => by simp only [Wrc.entry, hen]
  have hsel : ∀ sd, v.selection sd = w.selection sd := fun sd => by simp only [Wrc.selection, hen]
  have hget : ∀ k, (judgeBatteryParts p).wrc.levels.get k = p.wrc.levels.get k := fun k => by cases k <;> rfl
  have hold : ∀ k, (judgeBatteryParts p).wrc.entry k = p.wrc.entry k := fun _ => rfl
  have hlevel : ∀ k, v.levels.get k = w.levels.get k := fun k => by rw [hlv]
  have hpart : p.rewarned v n = (judgeBatteryParts p).rewarned v n := by cases n <;> rfl
  have hnote : n = true → ∀ l, Noticed .warnings l (p.rewarned v n) := by
    rintro rfl l
    exact notifyAll_noticed .warnings l _
  have hent : ∀ k, v.entry k = if v.levels.get k = p.wrc.levels.get k then p.wrc.entry k
      else if v.levels.get k then some (raisedEntry p.wrc p.svm.timeOfDay k) else none := fun k => by
    rw [hentry, hj.entry k, hlevel, hget]; rfl
  refine ⟨judgeWarnings_only p, ?_, fun h => ?_⟩
  · rw [hv]
    refine ⟨?_, ?_, fun k hk => ?_, fun k h0 h1 => ?_, fun k h1 h0 => ?_, fun k h => ?_, fun k h => ?_, fun sd => ?_,
      fun l => ?_, ?_⟩
    · have := (batteryParts_judged p).1
      rw [show nextBatteryLow p = v.levels.batteryLow by rw [hlv, hj.low]; rfl] at this
      cases n <;> exact this
    · have := (batteryParts_judged p).2
      rw [show nextBatteryHigh p = v.levels.batteryHigh by rw [hlv, hj.high]; rfl] at this
      cases n <;> exact this
    · obtain ⟨hs, hc, ha⟩ := tests_rewarned (p := judgeBatteryParts p) (w := v) k n (by rw [hlv, hj.low])
        (by rw [hlv, hj.high]) hre
      have := nextLevel_judged (judgeBatteryParts p) k
      have hin : k ∈ stateKinds := by cases k <;> first | decide | exact absurd hk (by decide)
      have hlk := hj.level k
      rw [if_pos hin] at hlk
      rw [hpart, Panel.rewarned_wrc, hlevel, hlk]
      unfold LevelJudged at this ⊢
      rw [← setTest_iff, ← clearTest_iff, hs, hc, ha, setTest_iff, clearTest_iff, ← hget]
      exact this
    · simp only [Panel.rewarned_wrc, Panel.rewarned_svm] at h1 ⊢
      rw [hent, h0, h1]; rfl
    · simp only [Panel.rewarned_wrc] at h0 ⊢
      rw [hent, h0, h1]; rfl
    · simp only [Panel.rewarned_wrc] at h ⊢
      rw [hent, if_pos h]
    · simp only [Panel.rewarned_wrc] at h
      exact hnote (hn ⟨k, by rw [← hentry]; exact h⟩)
    · simp only [Panel.rewarned_wrc]
      rw [hpl sd, hj.player sd, Player.settle_outlive]
      simp only [Player.follows, hentry, hsel]
      rfl
    · simp only [Panel.rewarned_wrc]
      exact hla l
    · simp only [Panel.rewarned_wrc]
      exact hre
  · rw [hv]
    have : n = false := hq fun k => by rw [← hlevel, hget, ← h k, hv, Panel.rewarned_wrc]
    rw [this]
    rfl

end Sys2Proof.Machine
end

