-- ==== Sys2Proof/Laws/Memory.lean ====
section
/-! SUPPORT. The laws of the store's cells: what a read finds after a write, and that a write keeps the
canonical form. -/

namespace Sys2Proof.Machine.Memory

open Sys2Proof

/-- An address below every listed one reads as erased. -/
theorem read_below : ∀ (cells : List (Nat × StoreWord)) (lo i : Nat), wfFrom lo cells = true → i < lo →
    read cells i = erased
  | [], _, _, _, _ => rfl
  | (a, v) :: rest, lo, i, h, hi => by
    simp only [wfFrom, Bool.and_eq_true, decide_eq_true_eq] at h
    have ha : a ≠ i := by omega
    simp only [read, ha, if_false]
    exact read_below rest (a + 1) i h.2 (by omega)

/-- A write answers every address: the written one with the value, any other as before. -/
theorem read_write : ∀ (cells : List (Nat × StoreWord)) (lo i j : Nat) (v : StoreWord), wfFrom lo cells = true →
    read (write i v cells) j = if j = i then v else read cells j
  | [], lo, i, j, v, _ => by
    by_cases hv : v = erased <;> by_cases hj : j = i
    · simp [write, hv, hj, read]
    · simp [write, hv, hj, read]
    · simp [write, hv, hj, read]
    · simp [write, hv, hj, read, Ne.symm hj]
  | (a, w) :: rest, lo, i, j, v, h => by
    have h' := h
    simp only [wfFrom, Bool.and_eq_true, decide_eq_true_eq] at h
    have ih := read_write rest (a + 1) i j v h.2
    by_cases h1 : i < a
    · by_cases hv : v = erased
      · simp only [write, h1, if_true, hv]
        by_cases hj : j = i
        · subst hj
          rw [if_pos rfl]
          exact read_below _ a j (by simp [wfFrom, h]) h1
        · rw [if_neg hj]
      · simp only [write, h1, if_true, hv, if_false]
        by_cases hj : j = i
        · simp [read, hj]
        · simp [read, hj, Ne.symm hj]
    · by_cases h2 : i = a
      · subst h2
        by_cases hv : v = erased
        · simp only [write, Nat.lt_irrefl, if_false, if_true, hv]
          by_cases hj : j = i
          · subst hj; rw [if_pos rfl]; exact read_below _ (j + 1) j h.2 (by omega)
          · simp [read, hj, Ne.symm hj]
        · simp only [write, Nat.lt_irrefl, if_false, if_true, hv]
          by_cases hj : j = i
          · simp [read, hj]
          · simp [read, hj, Ne.symm hj]
      · simp only [write, h1, h2, if_false, read]
        by_cases hj : a = j
        · subst hj; simp [Ne.symm h2]
        · simp only [hj, if_false]; exact ih

/-- A write at or above a bound keeps the canonical form from that bound. -/
theorem wfFrom_write : ∀ (cells : List (Nat × StoreWord)) (lo i : Nat) (v : StoreWord), wfFrom lo cells = true →
    lo ≤ i → i < size → wfFrom lo (write i v cells) = true
  | [], lo, i, v, _, hlo, hi => by
    by_cases hv : v = erased <;> simp [write, hv, wfFrom, hlo, hi]
  | (a, w) :: rest, lo, i, v, h, hlo, hi => by
    have h' := h
    simp only [wfFrom, Bool.and_eq_true, decide_eq_true_eq, bne_iff_ne] at h
    obtain ⟨⟨⟨h1, h2⟩, h3⟩, h4⟩ := h
    by_cases hia : i < a
    · by_cases hv : v = erased
      · simp [write, hia, hv]; exact h'
      · simp [write, hia, hv, wfFrom, hlo, hi, h2, h3, h4]
    · by_cases heq : i = a
      · subst heq
        by_cases hv : v = erased
        · simp only [write, Nat.lt_irrefl, if_false, if_true, hv]
          exact wfFrom_mono rest (i + 1) lo h4 (by omega)
        · simp [write, hv, wfFrom, h1, h2, h4]
      · simp only [write, hia, heq, if_false, wfFrom, Bool.and_eq_true, decide_eq_true_eq, bne_iff_ne]
        exact ⟨⟨⟨h1, h2⟩, h3⟩, wfFrom_write rest (a + 1) i v h4 (by omega) hi⟩
where
  /-- A canonical form from a bound is one from any lower bound. -/
  wfFrom_mono : ∀ (cells : List (Nat × StoreWord)) (hi lo : Nat), wfFrom hi cells = true → lo ≤ hi →
      wfFrom lo cells = true
    | [], _, _, _, _ => rfl
    | (a, w) :: rest, hi, lo, h, hle => by
      simp only [wfFrom, Bool.and_eq_true, decide_eq_true_eq] at h ⊢
      exact ⟨⟨⟨by omega, h.1.1.2⟩, h.1.2⟩, h.2⟩

/-- Every write inside the store keeps the canonical form (the only operation that changes cells). -/
theorem wf_write (cells : List (Nat × StoreWord)) (i : Nat) (v : StoreWord) (h : wf cells = true) (hi : i < size) :
    wf (write i v cells) = true := wfFrom_write cells 0 i v h (Nat.zero_le i) hi

/-- The written cell reads as the value. -/
theorem read_write_same (cells : List (Nat × StoreWord)) (i : Nat) (v : StoreWord) (h : wf cells = true) :
    read (write i v cells) i = v := by simp [read_write cells 0 i i v h]

/-- Every other cell reads as before. -/
theorem read_write_other (cells : List (Nat × StoreWord)) (i j : Nat) (v : StoreWord) (h : wf cells = true)
    (hj : j ≠ i) : read (write i v cells) j = read cells j := by simp [read_write cells 0 i j v h, hj]

/-- Canonical forms that read alike at every address are one list. -/
theorem wfFrom_ext : ∀ (xs ys : List (Nat × StoreWord)) (lo : Nat), wfFrom lo xs = true → wfFrom lo ys = true →
    (∀ i, read xs i = read ys i) → xs = ys
  | [], [], _, _, _, _ => rfl
  | [], (b, w) :: ys, lo, _, hy, h => by
    simp only [wfFrom, Bool.and_eq_true, bne_iff_ne] at hy
    exact absurd (by simpa [read] using (h b).symm) hy.1.2
  | (a, v) :: xs, [], lo, hx, _, h => by
    simp only [wfFrom, Bool.and_eq_true, bne_iff_ne] at hx
    exact absurd (by simpa [read] using h a) hx.1.2
  | (a, v) :: xs, (b, w) :: ys, lo, hx, hy, h => by
    simp only [wfFrom, Bool.and_eq_true, decide_eq_true_eq, bne_iff_ne] at hx hy
    have hab : a = b := by
      rcases Nat.lt_trichotomy a b with hlt | heq | hlt
      · have e := h a
        simp only [read, if_true, (Nat.ne_of_gt hlt : b ≠ a), if_false] at e
        exact absurd (e.trans (read_below ys (b + 1) a hy.2 (by omega))) hx.1.2
      · exact heq
      · have e := h b
        simp only [read, if_true, (Nat.ne_of_gt hlt : a ≠ b), if_false] at e
        exact absurd (e.symm.trans (read_below xs (a + 1) b hx.2 (by omega))) hy.1.2
    subst hab
    have hvw : v = w := by simpa [read] using h a
    subst hvw
    have hrest : xs = ys := wfFrom_ext xs ys (a + 1) hx.2 hy.2 fun i => by
      by_cases hi : a = i
      · subst hi
        rw [read_below xs (a + 1) a hx.2 (by omega), read_below ys (a + 1) a hy.2 (by omega)]
      · simpa [read, hi] using h i
    rw [hrest]

/-- Equal contents are equal data. -/
theorem wf_ext (xs ys : List (Nat × StoreWord)) (hx : wf xs = true) (hy : wf ys = true)
    (h : ∀ i, read xs i = read ys i) : xs = ys := wfFrom_ext xs ys 0 hx hy h

end Sys2Proof.Machine.Memory
end

