-- ==== Sys2Proof/Laws/Store.lean ====
section
/-! SUPPORT. How far the store's queue operations reach: the queue and notice STORE to SERVICE, no cell. -/

namespace Sys2Proof.Machine

open Sys2Proof

/-- An operation that changes nothing. -/
theorem QueueOnly.refl (p : Panel) : QueueOnly p p := ⟨rfl, .inl rfl⟩

/-- A change of the pending jobs. -/
theorem QueueOnly.withQueue (p : Panel) (q : List WriteJob) :
    QueueOnly p (p.withNvs { p.nvs with queue := q }) := ⟨rfl, .inl rfl⟩

/-- Notice STORE to SERVICE. -/
theorem QueueOnly.notify (p : Panel) : QueueOnly p (notifyLink .store .service p) := ⟨rfl, .inr rfl⟩

/-- A notice posted twice to one link is posted once (R184). -/
@[simp] theorem notifyLink_notifyLink (p : Panel) :
    notifyLink .store .service (notifyLink .store .service p) = notifyLink .store .service p := by
  simp [notifyLink, Panel.withPort, Panel.withPorts, PerLink.set, PerLink.get, LinkPort.notify, BitVec.or_assoc]

/-- What follows one another reaches no further. -/
theorem QueueOnly.trans {p q r : Panel} (h : QueueOnly p q) (k : QueueOnly q r) : QueueOnly p r := by
  obtain ⟨hq, hl⟩ := h
  obtain ⟨hr, hm⟩ := k
  refine ⟨by rw [hr, hq], ?_⟩
  have hn : (notifyLink .store .service q).lnk =
      { q.lnk with ports := q.lnk.ports.set .service ((q.lnk.ports.get .service).notify .store) } := rfl
  rcases hm with hm | hm
  · rw [hm]; exact hl
  · right
    rw [hm, hn]
    rcases hl with hl | hl
    · rw [hl]; rfl
    · rw [hl]
      exact congrArg Panel.lnk (notifyLink_notifyLink p)

theorem notifyRemoved_only (l : List WriteJob) (p : Panel) : QueueOnly p (notifyRemoved l p) := by
  unfold notifyRemoved
  split
  · exact .notify p
  · exact .refl p

/-- All that the removal of NORMAL jobs can change (R163). -/
theorem removeNormal_only (p : Panel) : QueueOnly p (removeNormal p) :=
  (QueueOnly.withQueue p _).trans (notifyRemoved_only _ _)

theorem purgeIfSupplyLow_only (p : Panel) : QueueOnly p (purgeIfSupplyLow p) := by
  unfold purgeIfSupplyLow
  split
  · exact removeNormal_only p
  · exact .refl p

/-- All that the beginning of a job can change (R159). -/
theorem beginNext_only (p : Panel) : QueueOnly p (p.withNvs p.nvs.beginNext) := by
  refine ⟨?_, .inl rfl⟩
  unfold Nvs.beginNext
  split
  · rfl
  · split
    · split <;> rfl
    · split <;> rfl

/-- All that the queuing of a job can change (R160, R163). -/
theorem queueJob_only (j : WriteJob) (p : Panel) : QueueOnly p (queueJob j p) :=
  ((QueueOnly.withQueue p _).trans (purgeIfSupplyLow_only _)).trans (beginNext_only _)

/-- All that the queuing of an odometer or snapshot job can change (R161). -/
theorem queueUrgent_only (d : JobData) (p : Panel) : QueueOnly p (queueUrgent d p) := by
  simp only [queueUrgent]
  split
  · exact queueJob_only _ p
  · split
    · exact .refl p
    · exact ((QueueOnly.withQueue p _).trans (notifyRemoved_only _ _)).trans (queueJob_only _ _)

/-- All that the queuing of an internal NORMAL job can change (R161). -/
theorem queueInternal_only (d : JobData) (p : Panel) : QueueOnly p (queueInternal d p) := by
  unfold queueInternal
  split
  · exact .refl p
  · exact queueJob_only _ p

/-- No queue operation changes a cell. -/
theorem QueueOnly.cells {p q : Panel} (h : QueueOnly p q) : q.nvs.cells = p.nvs.cells := by rw [h.1]

end Sys2Proof.Machine
end

