-- ==== Sys2Proof/Laws/Reach.lean ====
section
/-! SUPPORT. How far the operations that several blocks share reach. -/

namespace Sys2Proof.Machine

open Sys2Proof

/-- R65: a change of the range's inputs delivers the range and has the warnings judged. -/
theorem rangeInputsChanged_reach (p : Panel) : WarningsJudged p.withRange (rangeInputsChanged p) :=
  judgeWarnings_judged _

/-- R123, R124: an evaluation reaches the items' States, notice SERVICE and the warnings. -/
theorem evaluate_reach (p : Panel) :
    ∃ q, (q = p ∨ q = p.withSvm { p.svm with items := evaluatedItems p } ∨
        q = notifyAll .service (p.withSvm { p.svm with items := evaluatedItems p })) ∧
      (q = evaluate p ∨ WarningsJudged q (evaluate p)) := by
  simp only [evaluate]
  split
  · exact ⟨p, .inl rfl, .inl rfl⟩
  · split
    · exact ⟨_, .inr (.inl rfl), .inr (judgeWarnings_judged _)⟩
    · exact ⟨_, .inr (.inr rfl), .inr (judgeWarnings_judged _)⟩

/-- R23, R32: a remainder reloaded at a restart's recovery stays below its new constant. -/
theorem Dfa.reload_lt {old new : Calibration} {d : Dfa} (hd : d.rd < old.pulsesPerKm)
    (hf : d.rf < old.injectorUsPerMl) (hp : 0 < new.pulsesPerKm) (hi : 0 < new.injectorUsPerMl) :
    (d.reload old new).rd < new.pulsesPerKm ∧ (d.reload old new).rf < new.injectorUsPerMl := by
  constructor <;> simp only [Dfa.reload] <;> split <;> omega

/-- R90: at a refresh the Gauge Driver alone takes the working calibration. -/
@[simp] theorem takeGaugeCalibration_eq (p : Panel) :
    takeGaugeCalibration p = p.withGdr { p.gdr with calibration := p.nvs.calibration.forGauges } := rfl

/-- R150: a judgement of the fault indication forms it, once recovery is done, and has the warnings judged. -/
theorem judgeFaultIndication_reach (p : Panel) : WarningsJudged p.withFaults (judgeFaultIndication p) := by
  unfold judgeFaultIndication Panel.withFaults
  split <;> exact judgeWarnings_judged _

/-- R67: a judgement of arrival reaches JOURNEY's armed flag, notice TRIP and the warnings. -/
theorem judgeArrival_reach (p : Panel) :
    ∃ q, (q = p ∨ q = notifyAll .trip (p.withTrc { p.trc with arrivalArmed := false })) ∧
      WarningsOnly q (judgeArrival p) := by
  simp only [judgeArrival]
  split
  · exact ⟨_, .inr rfl, raiseEvent_only _ _⟩
  · exact ⟨p, .inl rfl, .refl p⟩

/-- R51: a link may change a record when it is SERVICE or the record's effective owner. -/
theorem mayChange_iff (p : Panel) (l : Link) (i : TripId) : mayChange p l i = true ↔ l = .service ∨ Owns p l i := by
  cases i <;> cases l <;> cases hf : p.pmc.rearFitted <;> cases hr : p.lnk.ports.rear.present <;>
    simp [mayChange, effectiveOwner, Owns, hf, hr]

/-- R178: the beginning of a reply changes the port's reply alone. -/
theorem startReply_eq (l : Link) (st : Status) (d : List Byte) (p : Panel) :
    startReply l st d p =
      p.withPort l { p.lnk.ports.get l with reply := some ⟨replyChars st d, 1, some 1408⟩ } := rfl

/-- R178: on a port that takes messages, a message delivered is taken at once. -/
theorem deliverMessage_ready {l : Link} {p : Panel} (m : Message) (hw : (p.lnk.ports.get l).waiting = none)
    (hr : (p.lnk.ports.get l).reply = none) (hd : p.nvs.recoveryDone = true) :
    deliverMessage l m p = takeMessage l m p := by
  simp [deliverMessage, hw, hr, hd]

/-- R178: on a ready link, a request command takes its request at once. -/
theorem submit_ready {l : Link} {s : State} (r : Request) (h : Ready l s) :
    submit l r s = .next (s.answered l (answerRequest l r s.toPanel).status (answerRequest l r s.toPanel).data
      (answerRequest l r s.toPanel).panel) := by
  obtain ⟨hp, hd, hr, hw⟩ := h
  simp only [submit, State.act_powered _ hp, deliverMessage_ready (.good r) hw hr hd]
  rfl

end Sys2Proof.Machine
end

