-- ==== Sys2Proof/Machine/Outputs.lean ====
section
/-! DEFINITION. What the part shows on its output pins, read from the state: attention lines, transmitted
characters, sounder tones, lamp drivers and coil duties (00_scope, Pins). -/

namespace Sys2Proof.Machine

open Sys2Proof

/-- R173, R179: the character that a reply in transmission has on the line: its mark bit and its data. The
first character alone has mark bit 1. -/
def Reply.onLine (r : Reply) : Bool × Byte := (r.next == 1, r.chars.getD (r.next - 1) 0)

/-- R173: the eleven bits of a character in the order they are sent: start, data from the least significant,
mark, stop. -/
def lineBits (mark : Bool) (data : Byte) : List Bool :=
  false :: ((List.range 8).map data.getLsbD ++ [mark, true])

/-- R173, R180: the bits being sent on a link's TX pin, of a reply or of the last character of one that a
restart cut off; none while the pin holds the idle level 1. -/
def txBits (p : Panel) (l : Link) : Option (List Bool) :=
  ((p.lnk.ports.get l).reply.or (p.lnk.ports.get l).cutOff).map fun r => lineBits r.onLine.1 r.onLine.2

/-- R184: whether a link's attention pin is pulled low. -/
def attentionPinLow (p : Panel) (l : Link) : Bool := (p.lnk.ports.get l).attentionLow

/-- R109: the square wave on a sounder pin, in Hz; none while the pin is held low. -/
def sounderTone (p : Panel) (sd : Sounder) : Option Nat :=
  match (p.wrc.players.get sd).state with
  | .strike k step | .ending k step => some (if isHighStrike (kindPattern k) step then 1000 else 800)
  | _ => none

/-- R115: whether a lamp driver is on. -/
def lampPinOn (p : Panel) (l : Lamp) : Bool := (p.wrc.lamps.get l).output

/-- R89: a coil pin: for how many of the 256 cycles of a period it drives, and whether toward VDRV. -/
def coilPin (p : Panel) (g : Gauge) (c : Coil) : Nat × Bool :=
  let d := (p.gdr.gauges.get g).duty.get c
  (d.natAbs, decide (0 ≤ d))

end Sys2Proof.Machine
end

