-- ==== Sys2Proof/WellFormed.lean ====
section
/-! DEFINITION. The commands that can occur: the checks on a command's operands alone. `exec` answers for an
ill-formed command too, and leaves the machine as it was. -/

namespace Sys2Proof

/-- R174: a received character's start bit has majority 0; one with majority 1 is a FALSE_START. -/
def startsCharacter (samples : BitVec 33) : Bool := !Machine.majority samples 0

/-- R92, R107: only a kind with a re-sound interval has a re-sound timer. -/
def resounds (k : WarningKind) : Bool := (Machine.resoundInterval k).isSome

/-- Whether a command can occur. Every parameter of a request is judged by its own rule when the request is
taken, so no request is ill formed. -/
def Instr.wellFormed : Instr → Bool
  | .characterReceived _ samples => startsCharacter samples
  | .resoundExpiry k => resounds k
  | .pulseEdge _ | .injectorOpen | .injectorClose | .longPulseExpiry | .gateExpiry | .quietExpiry _
  | .engineSecondsExpiry | .stationaryExpiry | .stationarySecondsExpiry | .switchSample _
  | .conversionComplete _ | .persistenceExpiry _ | .driverOverload _ | .fuelSampleExpiry | .refreshExpiry
  | .strikeEnd _ | .gapEnd _ | .restEnd _ | .linkGraceExpiry | .oneSecondEvent | .cellProgrammed
  | .powerOnReset _ _ | .restartBegin _ _ | .supplyLowAsserted | .supplyLowReleased | .bulbCheckExpiry
  | .beltTimerExpiry | .shutdownTimerExpiry | .gapTimerExpiry _ | .replyEnd _ | .presenceExpiry _
  | .presence _ | .noticesRead _ | .noticeMaskSet _ _ | .inputsRead _ | .errorsRead _ | .identityRead _
  | .valuesRead _ | .odometerRead _ | .tripRead _ _ | .warningsRead _ | .clockRead _ | .serviceRead _
  | .checkRead _ | .tripReset _ _ | .tripHold _ _ | .tripResume _ _ | .tripSetDestination _ _
  | .warningAck _ _ | .call _ | .overspeedSet _ _ | .rearQuietSet _ _ | .clockSet _ _ | .serviceReset _ _
  | .checkStart _ | .serviceWrite _ _ _ | .storeOpen _ | .storeStatus _ | .windowSelect _ _ _ _
  | .windowRead _ | .windowWrite _ _ | .bankSwitch _ _ | .odometerSet _ _ | .restart _ | .keepAliveLost
  | .falseStart _ | .rxReturnsToIdleLevel _ => true

end Sys2Proof
end

