-- ==== Sys2Proof/Tests/Slice0.lean ====
section
/-! SUPPORT. Tests. The expected values are the manual's own worked examples and tables, or are worked by hand
from its rules; each test names its source. The theorems `test_witness_…` show, for each obligation that has
hypotheses, a concrete state and operands that meet them together. -/

namespace Sys2Proof.Tests

open Sys2Proof Sys2Proof.Machine

set_option Elab.async false

/-! ### Small states -/

/-- The state a command leads to. -/
def after (c : Instr) (s : State) : State :=
  match exec c s with
  | .next t => t
  | .fault f => nomatch f
  | .refused _ => State.reset

/-- A state with its part changed. -/
def part (f : Panel → Panel) (s : State) : State := { s with toPanel := f s.toPanel }

/-- A recovered part in STARTUP whose store has nothing to write. -/
def quiet : State :=
  { State.reset with nvs := { Nvs.reset [] 0 with recoveryDone := true } }

/-- A part in RUN with E at 45.0 L, standing, within the link grace, with no warning and no fault. -/
def running : State :=
  { quiet with
    pmc := { quiet.pmc with mode := .run }
    dfa := { quiet.dfa with odoLost := false, estimate := some 450, fuelSampleTimer := some 2000000 }
    gdr := { quiet.gdr with refreshTimer := some 15625 }
    wrc := { quiet.wrc with linkGraceTimer := some 1000000 }
    chk := Chk.reset
    sws := { quiet.sws with inputs := PerSwitch.of fun i =>
      ⟨if i = .ignOn then .active else .inactive, 0, i == .ignOn⟩ } }

/-- A part with this odometer and sub-count, whose next SPD edge completes a distance unit. -/
def atUnit (odometer sub : Nat) : State :=
  { running with dfa := { running.dfa with rd := 3900, odometer := odometer, odoSubCount := sub } }

/-- A part with one conversion in progress. -/
def converting (c : Channel) (startedAt : Micros) (s : State) : State :=
  { s with adc := { s.adc with conversion := some ⟨c, startedAt, some 1⟩ } }

/-- A part whose SERVICE latch is set. -/
def unlocked (s : State) : State := { s with nvs := { s.nvs with unlockLatch := true } }

/-- An entry of a kind with its condition present and its F sounder pending. -/
def entryOf (k : WarningKind) : WarningEntry := ⟨k, true, ⟨true, false⟩, ⟨false, false⟩, none, 0⟩

/-- A part whose list holds these entries. -/
def warned (entries : List WarningEntry) (s : State) : State := { s with wrc := { s.wrc with entries := entries } }

/-- The cells of a run of words. -/
def run (first : Nat) (words : List StoreWord) : List (Nat × StoreWord) :=
  ((words.zipIdx first).map fun w => (w.2, w.1)).filter fun c => c.2 != Memory.erased

/-- R200: the ROM defaults laid out as a bank, with its check word last. -/
def romBank : List StoreWord :=
  let c := romDefaults
  let curve (c : Curve) : List Int := c.map Prod.fst ++ c.map Prod.snd
  let gauges (r : PerGauge Nat) : List Int := [r.speedo, r.tacho, r.fuel, r.temp, r.oilp]
  let body : List Int :=
    [(c.pulsesPerKm : Int), c.tachPulsesPerRev, c.injectorUsPerMl, c.injectorDeadTime, c.injectorsPerPulse,
      c.tankCapacity, c.fuelReserve, c.defaultConsumption, c.hotThreshold, c.oilLowThreshold] ++
    gauges c.gaugeSlew ++ gauges c.gaugeDeadband ++ gauges c.elecOffset ++
    [1, 0x7FF, (c.soonKm : Int), c.soonDays, c.overdueKm, c.overdueDays] ++
    curve c.gaugeCurves.speedo ++ curve c.gaugeCurves.tacho ++ curve c.gaugeCurves.fuel ++
    curve c.gaugeCurves.temp ++ curve c.gaugeCurves.oilp ++
    curve c.tankCurve ++ curve c.coolantCurve ++ curve c.oilCurve ++ curve c.airCurve
  let words := body.map (BitVec.ofInt 16) ++ List.replicate 20 0
  words ++ [checkWord words]

/-- A part whose store holds the ROM defaults in both banks, bank A active. -/
def banked : State :=
  { running with nvs :=
    { running.nvs with cells := run 96 romBank ++ run 256 romBank, activeBank := some .a } }

/-! ### Ill-formed commands are refused by the checks -/

/-- R174: a start bit whose majority is 1 starts no character. -/
theorem test_wellFormed_refuses_false_start :
    (Instr.characterReceived .front 0x1FFFFFFFF).wellFormed = false ∧
      (Instr.characterReceived .front (cleanCharacter 1 true)).wellFormed = true := by decide

/-- R92: BRAKE has no re-sound interval, OVERHEAT has one. -/
theorem test_wellFormed_refuses_resound_without_interval :
    (Instr.resoundExpiry .brake).wellFormed = false ∧ (Instr.resoundExpiry .overheat).wellFormed = true := by
  decide

/-- No row of the table gives bits, so no word spells a command. -/
theorem test_no_word_spells_a_command :
    decodeTableWord 16 0x1234 = none ∧ (State.reset.withFetchWord 16 0x1234).pending = [] := by decide

/-! ### Values worked in the manual -/

/-- 01, A steady speed and Coming to rest. -/
theorem test_speeds :
    [9000, 40000, 165000, 290000, 415000, 540000, 665000, 790000, 915000].map (fun p => speedOf 4000 (some p)) =
      [1000, 225, 55, 31, 22, 17, 14, 11, 10] ∧ engineOf 4 (some 15000) = 1000 := by decide

/-- 01, Injector widths: one over a wrap of the timebase, one long. -/
theorem test_injector_widths :
    OpenPulse.width 1003200 ⟨1000000, false⟩ = 3200 ∧ OpenPulse.width 2200 ⟨16776000, false⟩ = 3416 ∧
      OpenPulse.width 540000 ⟨500000, true⟩ = 25000 := by decide

/-- 01, A falling sender curve: its curve is the ROM's. -/
theorem test_falling_curve :
    [80, 140, 160, 240, 10].map (curveValue romDefaults.coolantCurve) = [96, 70, 57, 10, 130] := by decide

/-- 02, odometer at a crossing: 1,234,600 in imperial replies. -/
theorem test_odometer_in_miles : duToMiles 12346000 = 767145 := by decide +kernel

/-- 03, Derived values of one record. -/
theorem test_trip_values :
    averageSpeed ⟨12345, 16049, 5400⟩ = some 823 ∧ averageConsumption ⟨12345, 16049, 5400⟩ = some 130 ∧
      averageEconomy ⟨12345, 16049, 5400⟩ = some 217 ∧ duToMiles 12345 = 767 ∧ mlToGallons 16049 = 35 ∧
      kmToMiles 823 = 511 := by decide +kernel

/-- 03, A journey with a destination. -/
theorem test_journey_eta :
    let t : Trc := { Trc.reset with
      trips := { Trc.reset.trips with journey := ⟨⟨12345, 16049, 5400⟩, false, none⟩ }, destinationKm := some 250 }
    remainingDistance t = some 12655 ∧ eta t = some 92 := by decide +kernel

/-- 03, Range, with TANK qualifying and after a refuel. -/
theorem test_range :
    rangeKm { running.toPanel with trc := { running.trc with
      trips := { running.trc.trips with tank := ⟨⟨30000, 39000, 0⟩, false, none⟩ } } } = some 346 ∧
      rangeKm { running.toPanel with dfa := { running.dfa with estimate := some 802 } } = some 445 := by
  decide +kernel

/-- 03, Instant value: the four rows. -/
theorem test_instant_values :
    [(180, 200), (2, 8), (40, 0), (0, 0)].map (fun sums => instantValue { running.toPanel with
      trc := { running.trc with ring := [⟨sums.1, sums.2⟩] } }) =
      [(.consumption, some 111), (.idleFlow, some 36), (.consumption, some 0), (.absent, none)] := by
  decide +kernel

/-- 04, Coil duties: the four rows. -/
theorem test_coil_duties :
    [320, 1300 % 1024, 1013, 0].map coilDuties = [⟨236, -98⟩, ⟨253, -31⟩, ⟨-17, 254⟩, ⟨0, 255⟩] := by decide

/-- 04, The sweep at RUN entry and Tracking with deadband: tracking values. -/
theorem test_gauge_curves :
    curveValue romDefaults.gaugeCurves.tacho 800 = 77 ∧ curveValue romDefaults.gaugeCurves.fuel 450 = 115 ∧
      [1000, 1003, 994, 1010, 1100].map (curveValue romDefaults.gaugeCurves.speedo) = [320, 321, 318, 323, 352] := by
  decide

/-- 04, Tracking with deadband: the moves of its seven refreshes. -/
theorem test_moves :
    [moveToward 320 321 2 8, moveToward 320 318 2 8, moveToward 320 323 2 8, moveToward 323 352 2 8,
      moveToward 347 352 2 8] = [320, 320, 323, 331, 352] := by decide

/-- 06, An oil service falling due: the item's State at each event. -/
theorem test_oil_service :
    let it : ServiceItem := ⟨true, 1, 15000, 365, 40000, 100, true, .ok⟩
    [itemState romDefaults 54200 430 it, itemState romDefaults 55000 460 it, itemState romDefaults 55100 466 it,
      itemState romDefaults 56501 469 it,
      itemState romDefaults 56540 470 { it with lastKm := 56540, lastDay := 470 }] =
      [.dueSoon, .due, .due, .overdue, .ok] := by decide

/-- 06, A day-only item. -/
theorem test_day_only_item :
    [880, 900, 930, 976].map (fun day => itemState romDefaults 0 day ⟨true, 4, 0, 730, 0, 200, false, .ok⟩) =
      [.ok, .dueSoon, .due, .overdue] := by decide

/-- R143: the thresholds of a SENSE reading. -/
theorem test_sense_results :
    [19, 20, 239, 240].map (fun r => senseResult (BitVec.ofNat 8 r)) =
      [.openCircuit, .normal, .normal, .short] := by decide

/-- 11, one ring record: cells 14 and 15. -/
theorem test_ring_record : ringRecord 1234600 = [0xD6A8, 0x6F12] := by decide

/-- 11, one service item: LastKm 40,000 recovered at 130,000 km. -/
theorem test_service_item_recovered :
    let it : ServiceItem := ⟨true, 1, 15000, 0, 40000, 0, true, .inactive⟩
    recoverItem (rawItem true (run 64 (itemWords it)) .s0) 130000 0 =
      ({ it with lastKm := 105536 }, false) := by decide +kernel

/-- R188: a Celsius temperature in Fahrenheit, a negative one by its magnitude. -/
theorem test_fahrenheit : [96, 0, -40, -21].map fahrenheit = [205, 32, -40, -6] := by decide

/-- R169: a bank of the ROM defaults is valid, and one whose first quantity has changed is not. -/
theorem test_bank_valid :
    bankWordsValid romBank = true ∧ bankWordsValid ((0x0FA1 : StoreWord) :: romBank.drop 1) = false ∧
      decodeBank romBank = romDefaults := by decide +kernel

/-- R185, R186, R198: the characters of the replies' checks. -/
theorem test_reply_characters :
    replyChars .ok [1, 2] = [0, 1, 2, 253] ∧ replyChars .badValue [] = [4, 252] ∧
      messageChars .presence = [1, 255] := by decide

/-! ### One command at a time: pulses, distance, fuel -/

/-- 02, a non-round calibration: the forty-second arrival completes a unit and leaves 50. -/
theorem test_pulse_edge_completes_a_unit :
    let s := after (.pulseEdge .spd) { running with
      nvs.calibration.pulsesPerKm := 4150, dfa := { running.dfa with rd := 4100 } }
    s.dfa.rd = 50 ∧ s.dfa.odoSubCount = 1 ∧ s.trc.trips.tripA.counts.distance = 1 ∧ s.trc.current = ⟨1, 0⟩ := by
  decide +kernel

/-- 02, odometer at a crossing: the last of ten units reaches 1,234,600 and queues its job, bound to a slot. -/
theorem test_pulse_edge_crosses_a_kilometre :
    let s := after (.pulseEdge .spd) (atUnit 1234599 9)
    s.dfa.odometer = 1234600 ∧ s.dfa.odoSubCount = 0 ∧
      s.nvs.inFlight = some ⟨.odometer 1234600, .urgent, .internal, some 0⟩ := by decide +kernel

/-- 01, A steady speed: V is 100.0 km/h, and the last edge is carried. -/
theorem test_gate_expiry_steady_speed :
    let s := after .gateExpiry { running with pcu.spd :=
      ⟨some 99000, ⟨12, some 0, some 99000, none⟩, some 1000000⟩ }
    s.pcu.speedV = 1000 ∧ s.pcu.spd.gate = ⟨1, some 99000, some 99000, some 9000⟩ := by decide +kernel

/-- 01, Engine speed: N is 1000 rpm and the engine runs. -/
theorem test_gate_expiry_engine_speed :
    let s := after .gateExpiry { running with pcu.eng :=
      ⟨some 60000, ⟨5, some 0, some 60000, none⟩, some 500000⟩ }
    s.pcu.engineN = 1000 ∧ s.pcu.engineRunning = true ∧ s.pcu.engineSecondsTimer = some 1000000 := by
  decide +kernel

/-- 01, Coming to rest: the quiet expiry. -/
theorem test_quiet_expiry :
    let s := after (.quietExpiry .spd) { running with pcu := { running.pcu with
      speedV := 10, spd := ⟨some 5, ⟨1, some 5, some 5, some 9000⟩, some 1⟩ } }
    s.pcu.speedV = 0 ∧ s.pcu.spd = ⟨none, ⟨0, none, none, none⟩, none⟩ := by decide +kernel

/-- R10: a second of a running engine. -/
theorem test_engine_second :
    (after .engineSecondsExpiry { running with pcu := { running.pcu with
      engineRunning := true, engineRunTime := 4, engineSecondsTimer := some 1 } }).pcu.engineRunTime = 5 := by
  decide +kernel

/-- 01, Coming to rest: the stationary expiry and the second after it. -/
theorem test_stationary :
    let s := after .stationaryExpiry { running with pcu := { running.pcu with
      stationary := false, stationaryTimer := some 1, stationarySecondsTimer := none } }
    s.pcu.stationary = true ∧ s.pcu.stationaryTime = 0 ∧ s.pcu.stationaryTimer = none ∧
      (after .stationarySecondsExpiry s).pcu.stationaryTime = 1 := by decide +kernel

/-- 01, Injector widths: two openings, one completion of 3,000 µs. -/
theorem test_injector_opened_twice :
    let s := after .injectorOpen { running with pcu.timebase := 700000 }
    let t := after .injectorOpen { s with pcu.timebase := 703000 }
    (after .injectorClose { t with pcu.timebase := 703500 }).dfa.rf = 400 % 300 ∧
      (after .longPulseExpiry t).pcu.openPulse = some ⟨703000, true⟩ := by decide +kernel

/-- 02, millilitres from one pulse: 37 mL and a remainder of 250. -/
theorem test_injector_close :
    let s := after .injectorClose { running with
      pcu := { running.pcu with timebase := 3200, openPulse := some ⟨0, false⟩ }
      dfa := { running.dfa with rf := 150 } }
    s.dfa.rf = 250 ∧ s.dfa.fuelSubCount = 37 ∧ s.trc.current = ⟨0, 37⟩ ∧
      s.trc.trips.tank.counts.fuel = 37 := by decide +kernel

/-- 02, filling with the engine running: samples 2, 3 and 6. -/
theorem test_fuel_sample :
    let at_ (e level : Nat) := (after .fuelSampleExpiry { running with
      dfa := { running.dfa with estimate := some e, fuelSubCount := 20 }
      adc := { running.adc with fuelLevel := some level }
      pcu := { running.pcu with stationaryTime := 60 } }).dfa
    (at_ 120 140).estimate = some 120 ∧ (at_ 120 150).estimate = some 121 ∧ (at_ 123 180).estimate = some 180 ∧
      (at_ 123 180).fuelSubCount = 0 ∧ (at_ 120 150).fuelSubCount = 20 := by decide +kernel

/-- 02, a refuel at the pump: TANK is reset, with Previous and notice TRIP. -/
theorem test_refuel_resets_tank :
    let s := after .fuelSampleExpiry { running with
      dfa := { running.dfa with estimate := some 120 }
      adc := { running.adc with fuelLevel := some 802 }
      pcu := { running.pcu with stationaryTime := 407 }
      trc := { running.trc with trips := { running.trc.trips with tank := ⟨⟨41200, 52008, 3302⟩, false, none⟩ } } }
    s.trc.trips.tank = ⟨⟨0, 0, 0⟩, false, some ⟨41200, 52008, 3302⟩⟩ ∧ s.lnk.ports.rear.noticeSet = 2 := by
  decide +kernel

/-! ### Switches, converter, gauges, check -/

/-- R14: the fourth differing sample of DOOR_DRV is accepted, with notice INPUTS. -/
theorem test_switch_sample_accepts :
    let s := after (.switchSample 0xFFB) { running with sws := { running.sws with
      inputs := { running.sws.inputs with
        doorDrv := ⟨.inactive, 3, true⟩, ignOn := ⟨.inactive, 0, false⟩ } } }
    s.sws.inputs.doorDrv = ⟨.active, 0, true⟩ ∧ s.sws.seen.rear = 4 ∧ s.lnk.ports.front.noticeSet = 64 := by
  decide +kernel

/-- R191: after recovery, IGN_ON settling INACTIVE leads from STARTUP to STANDBY. -/
theorem test_switch_sample_ends_startup :
    let s := after (.switchSample 0xFFE) { quiet with sws := { quiet.sws with
      inputs := { quiet.sws.inputs with ignOn := ⟨.unsettled, 3, false⟩ } } }
    s.pmc.mode = .standby ∧ s.sws.sampleTimer = some 64000 ∧ s.lnk.ports.front.noticeSet = 256 := by
  decide +kernel

/-- 01, A falling sender curve: reading 80 gives 96 °C; the conversion of OIL begins. -/
theorem test_conversion_of_coolant :
    let s := after (.conversionComplete 80) (converting .coolant 0 running)
    s.adc.coolantTemp = some 96 ∧ s.adc.readings.coolant = some 80 ∧
      s.adc.conversion = some ⟨.oil, 0, some 2000⟩ := by decide +kernel

/-- 01, A sender going open circuit: the first reading of 255, and the persistence expiry. -/
theorem test_open_sender :
    let s := after (.conversionComplete 255) (converting .coolant 0 running)
    let t := after (.persistenceExpiry .coolant) s
    s.adc.faults.coolant = ⟨false, some 2000000, 0⟩ ∧ s.adc.coolantTemp = none ∧
      t.adc.faults.coolant = ⟨true, none, 0⟩ ∧ t.wrc.present .checkFault = true := by decide +kernel

/-- 07, A requested check: a conversion that began at 3 ms is too early; the one of 19 ms ends OIL's step. -/
theorem test_check_step :
    let s := after (.checkStart .front) running
    let early := after (.conversionComplete 120) (converting .sense 3000 s)
    let late := after (.conversionComplete 120) (converting .sense 19000 s)
    early.chk.lamps.oil = ItemRecord.reset ∧ late.chk.lamps.oil = ⟨.normal, some 120, .step⟩ ∧
      late.chk.currentItem = some (.lamp .temp) ∧ late.wrc.lamps.temp.output = true ∧
      late.wrc.lamps.oil.output = false := by decide +kernel

/-- R84: a refresh grants the hold that waits, and the sin coil is driven at full duty. -/
theorem test_hold_granted :
    let s := after .refreshExpiry { running with
      chk := { running.chk with state := .running, currentItem := some (.coil .speedo .sin), phase := .holdWait }
      gdr := { running.gdr with gauges := { running.gdr.gauges with
        speedo := ⟨767, 160, .sweepUp, .requested, ⟨false, false⟩, ⟨236, -98⟩⟩ } } }
    s.gdr.gauges.speedo = ⟨767, 160, .sweepUp, .granted, ⟨false, false⟩, ⟨255, 0⟩⟩ ∧
      s.chk.phase = .driven := by decide +kernel

/-- 04, Tracking with deadband: refresh 4 moves SPEEDO from 323 to 331. -/
theorem test_refresh_tracks :
    let s := after .refreshExpiry { running with
      pcu := { running.pcu with speedV := 1100 }
      gdr := { running.gdr with gauges := { running.gdr.gauges with
        speedo := ⟨323, 323, .tracking, .none, ⟨false, false⟩, ⟨0, 0⟩⟩ } } }
    s.gdr.gauges.speedo.current = 331 ∧ s.gdr.gauges.speedo.target = 352 := by decide +kernel

/-- 07, An overload caught during a check: OILP is DISABLED with its coils off, CHECK goes to all links. -/
theorem test_driver_overload :
    let s := after (.driverOverload (.coil .oilp .sin)) { running with
      gdr := { running.gdr with gauges := { running.gdr.gauges with
        oilp := ⟨153, 153, .tracking, .none, ⟨false, false⟩, ⟨100, 100⟩⟩ } } }
    s.gdr.gauges.oilp = ⟨153, 153, .disabled, .none, ⟨true, false⟩, ⟨0, 0⟩⟩ ∧
      s.chk.coils.oilp.sin = ⟨.short, none, .overload⟩ ∧ s.chk.faultCount = 1 ∧
      s.lnk.ports.service.noticeSet &&& 8 = 8 := by decide +kernel

/-! ### Warnings -/

/-- 05, A higher priority cutting across: at 900 ms SINGLE is abandoned for REST, then URGENT begins. -/
theorem test_strike_gives_way :
    let s := warned [entryOf .oilPressure, { entryOf .lowFuel with conditionPresent := true }]
      { running with wrc := { running.wrc with players := ⟨⟨.strike .lowFuel 3, some 1⟩, ⟨.idle, none⟩⟩ } }
    let t := after (.strikeEnd .front) s
    t.wrc.players.front = ⟨.rest, some 150000⟩ ∧
      (after (.restEnd .front) t).wrc.players.front = ⟨.strike .oilPressure 1, some 150000⟩ := by decide +kernel

/-- R102, R111: a level that falls and rises within one strike leaves the strike to finish, and its pattern goes no
further: the fresh entry sounds after REST. -/
theorem test_strike_of_removed_entry :
    let s := warned [entryOf .overspeed] { running with
      pcu := { running.pcu with speedV := 500 }
      wrc := { running.wrc with
        players := ⟨⟨.strike .overspeed 5, some 1⟩, ⟨.idle, none⟩⟩
        levels := { running.wrc.levels with overspeed := true } } }
    let t := part judgeWarnings (part (fun p => judgeWarnings { p with wrc.overspeedSetpoint := 0 }) s)
    let u := part (fun p => judgeWarnings { p with wrc.overspeedSetpoint := 300 }) t
    t.wrc.entry .overspeed = none ∧ u.wrc.entry .overspeed = some (entryOf .overspeed) ∧
      u.wrc.players.front = ⟨.ending .overspeed 5, some 1⟩ ∧
      after (.strikeEnd .front) u = { u with wrc := u.wrc.setPlayer .front ⟨.rest, some 150000⟩ } := by
  decide +kernel

/-- R113: at SHUTDOWN entry a player in a gap, with two RUN kinds pending, goes IDLE. -/
theorem test_shutdown_quiets_players :
    let s := warned [entryOf .overspeed, entryOf .lowFuel] { running with wrc := { running.wrc with
      players := ⟨⟨.gap .overspeed 2, some 1⟩, ⟨.idle, none⟩⟩
      levels := { running.wrc.levels with overspeed := true, lowFuel := true } } }
    let t := after .supplyLowAsserted s
    t.pmc.mode = .shutdown ∧ t.wrc.entries = [] ∧ t.wrc.players.front = ⟨.idle, none⟩ := by
  decide +kernel

/-- R149: after an overload has ended a step, the SENSE conversion begun before the next drive is not used. -/
theorem test_overload_first :
    let s := part (fun p => { p with pcu.timebase := 9000 })
      (converting .sense 8500 (after (.checkStart .front) running))
    let t := after (.conversionComplete 100) (after (.driverOverload (.lamp .oil)) s)
    t.chk.lamps.oil = ⟨.short, none, .overload⟩ ∧ t.chk.lamps.temp = ⟨.notTested, none, .absent⟩ ∧
      t.chk.currentItem = some (.lamp .temp) ∧ t.chk.driveTime = some 9000 := by
  decide +kernel

/-- 05, the same: the end of SINGLE's fifth step leaves Pending and starts LOW_FUEL's timer of 600 s; a gap leads
to the pattern's next strike. -/
theorem test_single_completes :
    let e := entryOf .lowFuel
    let s (pl : PlayerState) := warned [e]
      { running with wrc := { running.wrc with players := ⟨⟨pl, some 1⟩, ⟨.idle, none⟩⟩ } }
    (after (.strikeEnd .front) (s (.strike .lowFuel 5))).wrc.entries =
        [{ e with pending := ⟨false, false⟩, resound := some 600000000 }] ∧
      (after (.strikeEnd .front) (s (.strike .lowFuel 5))).wrc.players.front = ⟨.idle, none⟩ ∧
      (after (.gapEnd .front) (s (.gap .lowFuel 2))).wrc.players.front = ⟨.strike .lowFuel 3, some 300000⟩ := by
  decide +kernel

/-- 05, An overheating engine: at 64.25 s the acknowledged entry is pending again. -/
theorem test_resound :
    let e : WarningEntry := ⟨.overheat, true, ⟨false, false⟩, ⟨true, false⟩, some 1, 0⟩
    let s := after (.resoundExpiry .overheat) (warned [e] running)
    s.wrc.entry .overheat = some ⟨.overheat, true, ⟨true, false⟩, ⟨false, false⟩, none, 0⟩ ∧
      s.wrc.players.front.state = .strike .overheat 1 := by decide +kernel

/-- R97: with the link grace over, an ABSENT front link raises LINK_LOST. -/
theorem test_link_grace :
    (after .linkGraceExpiry { running with wrc := { running.wrc with linkGraceTimer := some 1 } }).wrc.present
      .linkLost = true := by decide +kernel

/-- R193: the bulb check ends and the lamps go out; the belt window ends and SEAT_BELT leaves. -/
theorem test_run_windows :
    let s := after .bulbCheckExpiry { running with
      pmc := { running.pmc with bulbCheckTimer := some 1 }
      wrc := { running.wrc with bulbCheck := true, lamps := PerLamp.of fun _ => ⟨true, false, true⟩ } }
    let t := after .beltTimerExpiry (warned [{ entryOf .seatBelt with pending := ⟨true, false⟩ }] { running with
      pmc := { running.pmc with beltTimer := some 1 }
      wrc := { running.wrc with beltWindow := true, levels := { running.wrc.levels with seatBelt := true } } })
    s.wrc.lamps.oil = ⟨false, false, false⟩ ∧ s.wrc.lamps.belt.output = true ∧ t.wrc.beltWindow = false ∧
      t.wrc.present .seatBelt = false := by decide +kernel

/-! ### The clock, the store, the supply -/

/-- R133, R136: midnight, and the roll-over of the day timer with its day job. -/
theorem test_one_second_event :
    let s := after .oneSecondEvent { running with svm := { running.svm with
      timeOfDay := 86399, dayTimer := 86399, dayCount := 434 } }
    s.svm.timeOfDay = 0 ∧ s.svm.dayTimer = 0 ∧ s.svm.dayCount = 435 ∧ s.trc.trips.tripA.counts.runTime = 1 ∧
      s.nvs.inFlight = some ⟨.cells 32 [435, 0xFE4C], .normal, .internal, some 32⟩ := by decide +kernel

/-- 08, A service reset held up by the odometer: at 10 ms S is suspended at cell 73 and O begins at cell 14. -/
theorem test_cell_programmed_suspends :
    let s := after .cellProgrammed { running with nvs := { running.nvs with
      ringPointer := 6, cellTimer := some 1
      inFlight := some ⟨.cells 72 [1, 2, 3, 4], .normal, .front, some 72⟩
      queue := [⟨.odometer 1234600, .urgent, .internal, none⟩] } }
    s.nvs.cells = [(72, 1)] ∧ s.nvs.inFlight = some ⟨.odometer 1234600, .urgent, .internal, some 14⟩ ∧
      s.nvs.queue = [⟨.cells 72 [1, 2, 3, 4], .normal, .front, some 73⟩] := by decide +kernel

/-- 08, Programming bank B: the selector job's completion makes B active, with notice STORE to SERVICE. -/
theorem test_bank_switch_completes :
    let s := after .cellProgrammed { banked with nvs := { banked.nvs with
      switchInFlight := true, cellTimer := some 1
      inFlight := some ⟨.cells 88 [0x00B5, 0xFF4A], .urgent, .service, some 89⟩ } }
    s.nvs.activeBank = some .b ∧ s.nvs.switchInFlight = false ∧ s.nvs.calibration = romDefaults ∧
      s.lnk.ports.service.noticeSet &&& 0x80 = 0x80 := by decide +kernel

/-- R196, R156: a power-on reset of an erased part is the reset state of the model. -/
theorem test_power_on_reset :
    after (.powerOnReset false false)
      { State.reset with powered := false, nvs := { State.reset.nvs with cells := [] } } = State.reset := by
  decide +kernel

/-- 08, Recovering the ring: slot 6 has the largest good value, slot 7 a bad check. -/
theorem test_ring_recovered :
    recoverRing true (run 8 (ringRecord 1234580) ++ run 10 (ringRecord 1234590) ++ run 12 (ringRecord 1234600) ++
      [(14, 0xD6B2)]) = some (1234600, 6) := by decide +kernel

/-- R158, R197: a restart keeps the odometer and the day count, and samples the straps. -/
theorem test_restart_begin :
    let s := after (.restartBegin true false) { running with
      lnk := { running.lnk with restartArmed := true }
      dfa := { running.dfa with odometer := 1234600, rd := 100 }, svm := { running.svm with dayCount := 435 } }
    s.dfa.odometer = 1234600 ∧ s.dfa.rd = 0 ∧ s.svm.dayCount = 435 ∧ s.pmc.mode = .startup ∧
      s.pmc.imperial = true ∧ s.nvs.recoveryDone = true := by decide +kernel

/-- R180: a restart cuts off FRONT's reply, whose first character still drives the pin (assumption 46). -/
theorem test_restart_cuts_off_replies :
    let s := after (.presence .front) running
    let t := after (.restartBegin false false) { s with lnk := { s.lnk with restartArmed := true } }
    t.lnk.ports.front.reply = none ∧ txBits t.toPanel .front = txBits s.toPanel .front ∧
      (txBits s.toPanel .front).isSome = true := by decide +kernel

/-- R194: supply low in RUN: SHUTDOWN, with the snapshot job and the odometer job, since tenths stand. -/
theorem test_supply_low :
    let s := after .supplyLowAsserted { running with dfa := { running.dfa with odometer := 1234603 } }
    s.pmc.mode = .shutdown ∧ s.nvs.jobCount = 2 ∧ s.pmc.shutdownTimer = some 2000000 ∧
      s.gdr.gauges.fuel.phase = .parking := by decide +kernel

/-- 10, A quick return and a supply dip: RUN again, with the sweep, the windows and a check. -/
theorem test_supply_return :
    let s := after .supplyLowReleased (after .supplyLowAsserted running)
    s.pmc.mode = .run ∧ s.gdr.gauges.speedo.phase = .sweepUp ∧ s.pmc.beltTimer = some 6000000 ∧
      s.chk.state = .running ∧ s.chk.source = .auto := by decide +kernel

/-- R195: the shutdown timer stands for gauges at rest; with the snapshot written, STANDBY begins. -/
theorem test_shutdown_timer :
    let s (written : Bool) := after .shutdownTimerExpiry { running with
      pmc := { running.pmc with mode := .shutdown, shutdownTimer := some 1, snapshotWritten := written } }
    (s false).pmc.mode = .shutdown ∧ (s false).pmc.gaugesAtRest = true ∧ (s true).pmc.mode = .standby ∧
      (s true).gdr.refreshTimer = none := by decide +kernel

/-- R196: without keep-alive the part does nothing. -/
theorem test_keep_alive_lost :
    let s := after .keepAliveLost running
    s.powered = false ∧ after (.pulseEdge .spd) s = s ∧ after (.clockSet .front 5) s = s := by decide +kernel

/-! ### Links -/

/-- R175, R178: the two characters of PRESENCE come to its reply: mode RUN, no notice, and its check. -/
theorem test_message_received :
    let s := after (.characterReceived .front (cleanCharacter 0xFF false))
      (after (.characterReceived .front (cleanCharacter 1 true)) running)
    s.lnk.ports.front.reply = some ⟨[0, 1, 0, 0xFF], 1, some 1408⟩ ∧ s.lnk.ports.front.present = true ∧
      s.lnk.ports.rear.noticeSet = 0x20 ∧ txBits s.toPanel .front =
        some [false, false, false, false, false, false, false, false, false, true, true] := by decide +kernel

/-- R174: a stop bit that reads 0 spoils the character; the receiver looks again when RX reads 1. -/
theorem test_framing_error :
    let s := after (.characterReceived .rear 0) running
    s.lnk.ports.rear.charErrors = 1 ∧ s.lnk.ports.rear.looking = false ∧
      (after (.rxReturnsToIdleLevel .rear) s).lnk.ports.rear.looking = true ∧
      after (.falseStart .rear) running = running := by decide +kernel

/-- R176, R182: a message abandoned after 10 ms; a link silent for 2 s. -/
theorem test_link_timers :
    let s := after (.gapTimerExpiry .rear) (after (.characterReceived .rear (cleanCharacter 14 true)) running)
    let t := after (.presenceExpiry .service) (unlocked { running with lnk := { running.lnk with
      ports := { running.lnk.ports with
        service := { running.lnk.ports.service with present := true, presenceTimer := some 1 } } } })
    s.lnk.ports.rear.discardedMessages = 1 ∧ s.lnk.ports.rear.receiveState = .idle ∧
      t.lnk.ports.service.present = false ∧ t.nvs.unlockLatch = false ∧ t.lnk.ports.front.noticeSet &&& 0x20 = 0x20 := by
  decide +kernel

/-- 09, Three requests sent back to back: the second waits, the third is an overrun, and the end of the first
reply begins the second's. -/
theorem test_requests_back_to_back :
    let s := after (.clockRead .front) (after (.presence .front) (after (.errorsRead .front)
      { running with lnk := { running.lnk with ports := { running.lnk.ports with
        front := { running.lnk.ports.front with discardedMessages := 2 } } } }))
    let port := s.lnk.ports.front
    (port.reply.map Reply.chars) = some [0, 0, 2, 0, 254] ∧ port.waiting = some (.good .presence) ∧
      port.overruns = 1 ∧ ((after (.replyEnd .front) s).lnk.ports.front.reply.map Reply.chars) = some [0, 1, 0, 0xFF] := by
  decide +kernel

/-! ### Requests -/

/-- The status and data of the reply a link's port begins. -/
def replyOf (l : Link) (s : State) : List Byte := (((s.lnk.ports.get l).reply).map Reply.chars).getD []

/-- 09, A notice while the master reads: the reply carries TRIP and the mask, and the set is emptied. -/
theorem test_notices_read :
    let s := after (.noticesRead .front) { running with lnk := { running.lnk with ports :=
      { running.lnk.ports with front := { running.lnk.ports.front with noticeSet := 2 } } } }
    replyOf .front s = [0, 2, 0, 0xFF, 1, 0xFE] ∧ s.lnk.ports.front.noticeSet = 0 := by decide +kernel

/-- R185: a mask of the nine kinds is taken, and a tenth bit is refused. -/
theorem test_notice_mask_set :
    (after (.noticeMaskSet .service 0x1FF) running).lnk.ports.service.noticeMask = 0x1FF ∧
      replyOf .service (after (.noticeMaskSet .service 0x200) running) = [4, 252] := by decide +kernel

/-- R16: the accepted levels with IGN_ON in bit 0, and the reading link's seen-change set cleared. -/
theorem test_inputs_read :
    let s := after (.inputsRead .rear) { running with sws := { running.sws with seen := ⟨4, 4, 4⟩ } }
    replyOf .rear s = [0, 1, 0, 4, 0, 251] ∧ s.sws.seen = ⟨4, 0, 4⟩ := by decide +kernel

/-- R31, R138: the odometer and the clock in characters, least significant first. -/
theorem test_odometer_and_clock_read :
    replyOf .front (after (.odometerRead .front) { running with dfa := { running.dfa with odometer := 0x12D6A8 } }) =
        [0, 0xA8, 0xD6, 0x12, 0, 0x70] ∧
      replyOf .front (after (.clockRead .front) { running with svm := { running.svm with
        timeOfDay := 29650, clockSet := true, dayTimer := 70000, dayCount := 612 } }) =
        [0, 0xD2, 0x73, 0, 1, 0x70, 0x11, 1, 0x64, 2, 0xD2] := by decide +kernel

/-- R68, R117, R131, R151, R167, R172, R188, R198: the number of data characters of each fixed-length reply. -/
theorem test_reply_lengths :
    [Instr.identityRead .service, .valuesRead .service, .tripRead .service 0, .warningsRead .service,
      .serviceRead .service, .checkRead .service, .storeStatus .service].map
        (fun c => (replyOf .service (after c running)).length - 2) = [32, 85, 31, 12, 128, 91, 13] := by
  decide +kernel

/-- 03, A reset, a hold and a reset while held: the TRIP_RESET from FRONT, and TRIP_HOLD. -/
theorem test_trip_reset_and_hold :
    let s := { running with trc := { running.trc with
      trips := { running.trc.trips with tripB := ⟨⟨8000, 9500, 2100⟩, false, none⟩ } } }
    (after (.tripReset .front 1) s).trc.trips.tripB = ⟨⟨0, 0, 0⟩, false, some ⟨8000, 9500, 2100⟩⟩ ∧
      (after (.tripReset .front 1) s).lnk.ports.rear.noticeSet = 2 ∧
      (after (.tripReset .front 1) s).lnk.ports.front.noticeSet = 0 ∧
      (after (.tripHold .front 1) s).trc.trips.tripB.held = true ∧
      replyOf .rear (after (.tripResume .rear 1) s) = [3, 253] := by decide +kernel

/-- 03, JOURNEY changing hands: a destination from FRONT while REAR is ABSENT, refused once REAR is PRESENT. -/
theorem test_destination :
    let s := after (.tripSetDestination .front 85) { running with pmc := { running.pmc with rearFitted := true } }
    let t : State := { s with lnk := { running.lnk with ports := { running.lnk.ports with
      rear := { running.lnk.ports.rear with present := true } } } }
    s.trc.destinationKm = some 85 ∧ s.trc.arrivalArmed = true ∧
      replyOf .front (after (.tripSetDestination .front 0) t) = [3, 253] := by decide +kernel

/-- 05, An overheating engine, acknowledged from FRONT: F is acked and its timer of 60 s starts. -/
theorem test_warning_ack :
    let s := after (.warningAck .front 2) (warned [entryOf .overheat] running)
    s.wrc.entries = [⟨.overheat, true, ⟨false, false⟩, ⟨true, false⟩, some 60000000, 0⟩] ∧
      s.lnk.ports.rear.noticeSet = 1 ∧ s.lnk.ports.front.noticeSet = 0 := by decide +kernel

/-- 05, A rear call: CALL from REAR inserts REAR_CALL and plays DOUBLE; an ack from REAR is NOT_ACTIVE. -/
theorem test_call :
    let s := after (.call .rear) running
    s.wrc.entries = [⟨.rearCall, false, ⟨true, false⟩, ⟨false, false⟩, none, 0⟩] ∧
      s.wrc.players.front = ⟨.strike .rearCall 1, some 400000⟩ ∧ sounderTone s.toPanel .front = some 1000 ∧
      replyOf .rear (after (.warningAck .rear 10) (warned [entryOf .rearCall] running)) = [9, 247] := by
  decide +kernel

/-- R98: 299 is refused, 300 taken, and V at the setpoint raises OVERSPEED at once. -/
theorem test_overspeed_set :
    let s := { running with pcu := { running.pcu with speedV := 300 } }
    replyOf .front (after (.overspeedSet .front 299) s) = [4, 252] ∧
      (after (.overspeedSet .front 300) s).wrc.present .overspeed = true := by decide +kernel

/-- R104: rear quiet removes the arrival that only waits for sounder R. -/
theorem test_rear_quiet :
    (after (.rearQuietSet .rear 1) (warned
      [{ entryOf .arrival with conditionPresent := false, pending := ⟨false, true⟩ }] running)).wrc.entries = [] ∧
      replyOf .rear (after (.rearQuietSet .rear 2) running) = [4, 252] := by decide +kernel

/-- 06, Two compartments setting the clock. -/
theorem test_clock_set :
    let s := after (.clockSet .front 29700) running
    s.svm.timeOfDay = 29700 ∧ s.svm.clockSet = true ∧ s.lnk.ports.rear.noticeSet = 16 ∧
      replyOf .rear (after (.clockSet .rear 90000) running) = [4, 252] ∧
      replyOf .service (after (.clockSet .service 29000) running) = [2, 254] := by decide +kernel

/-- 06, An oil service falling due: the reset from FRONT at 56,540 km on day 470. -/
theorem test_service_reset :
    let s : State := { running with
      dfa := { running.dfa with odometer := 565400 }
      svm := { running.svm with dayCount := 470, items := { running.svm.items with
        s0 := ⟨true, 1, 15000, 365, 40000, 100, true, .overdue⟩ } } }
    let t := after (.serviceReset .front 0) s
    t.svm.items.s0 = ⟨true, 1, 15000, 365, 56540, 470, true, .ok⟩ ∧ t.lnk.ports.rear.noticeSet = 4 ∧
      t.nvs.jobCount = 1 ∧ replyOf .front (after (.serviceReset .front 6) s) = [4, 252] := by decide +kernel

/-- R129, R130: an item written from SERVICE; a last service in the future is refused. -/
theorem test_service_write :
    let s := unlocked { running with dfa := { running.dfa with odometer := 400000 } }
    let w : ItemParams := ⟨1, 1, 15000, 365, 40000, 0, 1⟩
    (after (.serviceWrite .service 2 w) s).svm.items.s2 = ⟨true, 1, 15000, 365, 40000, 0, true, .ok⟩ ∧
      (after (.serviceWrite .service 2 w) s).nvs.unlockLatch = false ∧
      replyOf .service (after (.serviceWrite .service 2 { w with lastKm := 40001 }) s) = [4, 252] := by
  decide +kernel

/-- 08, Programming bank B: the window's last cell wraps the index and ends the write permission. -/
theorem test_window :
    let s := after (.windowSelect .service 6 159 2) (after (.storeOpen .service) banked)
    let idle (t : State) : State := { t with lnk := running.lnk }
    let first := after (.storeOpen .service) banked
    let second := after (.windowSelect .service 6 159 2) (idle first)
    let third := after (.windowWrite .service 0x1234) (idle second)
    s.lnk.ports.service.waiting.isSome = true ∧ second.nvs.window = some ⟨.calB, 159, .stepWrite, true⟩ ∧
      third.nvs.window = some ⟨.calB, 0, .stepWrite, false⟩ ∧
      third.nvs.inFlight = some ⟨.cells 415 [0x1234], .normal, .service, some 415⟩ := by decide +kernel

/-- R162, R167: WINDOW_READ returns the data of a pending job that holds the cell. -/
theorem test_window_read :
    replyOf .service (after (.windowRead .service) { running with nvs := { running.nvs with
      queue := [⟨.cells 72 [1, 0x1234, 3, 4], .normal, .front, none⟩]
      window := some ⟨.serviceTable, 9, .stepBoth, false⟩ } }) = [0, 0x34, 0x12, 0xBA] := by decide +kernel

/-- 08, Programming bank B: BANK_SWITCH without the latch is LOCKED, and with it queues the selector job. -/
theorem test_bank_switch :
    replyOf .service (after (.bankSwitch .service 1) banked) = [7, 249] ∧
      (after (.bankSwitch .service 1) (unlocked banked)).nvs.inFlight =
        some ⟨.cells 88 [0x00B5, 0xFF4A], .urgent, .service, some 88⟩ ∧
      replyOf .service (after (.bankSwitch .service 0) (unlocked banked)) = [10, 246] := by decide +kernel

/-- R165: the odometer is set once; with the lock set the request is refused. -/
theorem test_odometer_set :
    let s := after (.odometerSet .service 1000) (unlocked running)
    s.dfa.odometer = 1000 ∧ s.nvs.odometerLock = true ∧ s.nvs.unlockLatch = false ∧ s.nvs.jobCount = 2 ∧
      replyOf .service (after (.odometerSet .service 2000) (unlocked { s with lnk := running.lnk })) = [7, 249] := by
  decide +kernel

/-- R180, R197: RESTART is answered OK, and the end of its reply restarts the part. -/
theorem test_restart :
    let s := after (.restart .service) running
    replyOf .service s = [0, 0] ∧ s.pmc.mode = .run ∧ (after (.replyEnd .service) s).pmc.mode = .startup := by
  decide +kernel

/-- R162: of two jobs for one cell, a suspended and a later one, the later gives the value read (assumption 47). -/
theorem test_read_of_the_last_queued :
    let s := { running with nvs := { running.nvs with queue :=
      [⟨.cells 64 [1, 2, 3, 4], .normal, .front, some 66⟩, ⟨.cells 64 [5, 6, 7, 8], .normal, .front, none⟩] } }
    s.nvs.readCell 67 = 8 ∧ s.nvs.readCell 68 = 0xFFFF := by decide +kernel

/-- R90, R171: the Gauge Driver takes the working calibration at a refresh. -/
theorem test_refresh_takes_calibration :
    let s := { running with nvs.calibration.elecOffset := ⟨5, 5, 5, 5, 5⟩ }
    s.gdr.calibration = romDefaults.forGauges ∧
      (after .refreshExpiry s).gdr.calibration.elecOffset = ⟨5, 5, 5, 5, 5⟩ := by decide +kernel

/-! ### Witnesses: states and operands that meet the hypotheses of each obligation -/

/-- An edge record 200 µs old on SPD, 500 µs old on ENG: the nearest that is accepted. -/
def spaced (ch : PulseChannel) (s : State) : State :=
  match ch with
  | .spd => { s with pcu := { s.pcu with timebase := 1200, spd := { s.pcu.spd with edgeRecord := some 1000 } } }
  | .eng => { s with pcu := { s.pcu with timebase := 1500, eng := { s.pcu.eng with edgeRecord := some 1000 } } }

/-- A part without keep-alive. -/
def dead : State := { running with powered := false }

theorem test_witness_EveryCommandAnswersNext :
    dead.powered = false ∧ ∀ units rear, Instr.presence .front ≠ .powerOnReset units rear :=
  ⟨rfl, nofun⟩

/-- No keep-alive; no timer due; the gate timer alone due; a reply's character that is not its last alone due, and a
cut-off reply's character alone due. -/
theorem test_witness_AnIdleStepIsOneMicrosecond :
    (dead.pending = [] ∧ dead.powered = false) ∧
    (running.pending = [] ∧ running.powered = true ∧
      ∀ e ∈ expiries, e.timer running.toPanel.countDown ≠ some 0) ∧
    (let s := { running with pcu.gateTimer := some 1 }
     let p := s.toPanel.countDown
     let q := (after .gateExpiry { s with toPanel := p }).toPanel
     s.pending = [] ∧ s.powered = true ∧ (Instr.gateExpiry, some 0) ∈ timedCommands p ∧
      expiries.countP (fun e => e.timer p == some 0) = 1 ∧
      exec .gateExpiry { s with toPanel := p } = .next { s with toPanel := q } ∧
      ∀ e ∈ expiries, e.timer q ≠ some 0) ∧
    (let s := running.withPort .rear { running.lnk.ports.rear with reply := some ⟨[0, 0], 1, some 1⟩ }
     let p := s.toPanel.countDown
     s.powered = true ∧ expiries.countP (fun e => e.timer p == some 0) = 1 ∧
      (p.lnk.ports.get .rear).reply = some ⟨[0, 0], 1, some 0⟩ ∧ 1 < [(0 : Byte), 0].length) ∧
    (let s := running.withPort .rear { running.lnk.ports.rear with cutOff := some ⟨[0, 0], 1, some 1⟩ }
     let p := s.toPanel.countDown
     expiries.countP (fun e => e.timer p == some 0) = 1 ∧
      (p.lnk.ports.get .rear).cutOff = some ⟨[0, 0], 1, some 0⟩) :=
  ⟨by decide, by decide +kernel, ⟨rfl, rfl, by decide +kernel, by decide +kernel, rfl, by decide +kernel⟩,
    by decide +kernel, by decide +kernel⟩

theorem test_witness_IdleTimersHaveNoExpiry :
    let s := quiet
    s.pcu.openPulse = none ∧ s.pcu.longPulseTimer = none ∧ s.pcu.spd.quietTimer = none ∧
      s.pcu.engineSecondsTimer = none ∧ s.pcu.stationaryTimer = none ∧ s.adc.conversion = none ∧
      s.adc.faults.fuel.persistence = none ∧ s.dfa.fuelSampleTimer = none ∧ s.gdr.refreshTimer = none ∧
      s.wrc.entry .overheat = none ∧ s.wrc.players.front.state = .idle ∧ s.wrc.linkGraceTimer = none ∧
      s.nvs.inFlight = none ∧ s.lnk.restartArmed = false ∧ s.pmc.bulbCheckTimer = none ∧
      s.pmc.beltTimer = none ∧ s.pmc.shutdownTimer = none ∧ s.lnk.ports.rear.gapTimer = none ∧
      s.lnk.ports.rear.reply = none ∧ s.lnk.ports.rear.presenceTimer = none ∧
      { s with pcu := { s.pcu with gateTimer := none, stationarySecondsTimer := none } }.pcu.gateTimer = none ∧
      { s with pcu := { s.pcu with gateTimer := none, stationarySecondsTimer := none }
        }.pcu.stationarySecondsTimer = none := by
  decide +kernel

/-- The invariants hold of a state with a job in flight, an entry, a fault, and a command that steps it. -/
def invariantState : State :=
  { warned [entryOf .overheat] banked with
    chk := { running.chk with
      lamps := { running.chk.lamps with oil := ⟨.openCircuit, some 5, .step⟩ }, faultCount := 1 }
    pending := [.oneSecondEvent] }

theorem test_witness_EveryStepKeepsTheStoreSound :
    StoreSound invariantState ∧ step invariantState = .next (after .oneSecondEvent { invariantState with pending := [] }) :=
  ⟨⟨by decide +kernel, fun _ h => absurd h List.not_mem_nil, nofun, nofun⟩, rfl⟩

theorem test_witness_EveryStepKeepsFaultsCounted :
    FaultsCounted invariantState ∧ invariantState.chk.faultCount = 1 ∧
      step invariantState = .next (after .oneSecondEvent { invariantState with pending := [] }) :=
  ⟨show _ = _ by decide +kernel, rfl, rfl⟩

theorem test_witness_EveryStepKeepsEntriesInOrder :
    (let s := warned [entryOf .overheat, entryOf .lowFuel] invariantState
     EntriesInOrder s ∧ step s = .next (after .oneSecondEvent { s with pending := [] })) :=
  ⟨show List.Pairwise _ _ by decide +kernel, rfl⟩

theorem test_witness_EveryStepKeepsTripsInRange :
    TripsInRange invariantState ∧ step invariantState = .next (after .oneSecondEvent { invariantState with pending := [] }) :=
  ⟨⟨fun i => by cases i <;> exact ⟨by decide, by decide, by decide⟩, rfl, nofun, rfl⟩, rfl⟩

theorem test_witness_EveryStepKeepsOutOfRunOnLowSupply :
    NoRunOnLowSupply invariantState ∧ invariantState.pmc.mode = .run ∧
      step invariantState = .next (after .oneSecondEvent { invariantState with pending := [] }) :=
  ⟨fun _ => rfl, rfl, rfl⟩

theorem test_witness_AnEdgeIsAcceptedOrRejected :
    (let s := { running with pcu := { running.pcu with timebase := 1199, spd := { running.pcu.spd with edgeRecord := some 1000 } } };
      s.powered = true ∧ (s.pcu.input .spd).edgeRecord = some 1000 ∧ elapsed 1000 s.pcu.timebase < 200) ∧
    (let s := spaced .eng running;
      s.powered = true ∧ ∀ t, s.pcu.eng.edgeRecord = some t → 500 ≤ elapsed t s.pcu.timebase) ∧
    (let s := spaced .spd { running with dfa := { running.dfa with rd := 3899 } };
      s.powered = true ∧ (∀ t, s.pcu.spd.edgeRecord = some t → 200 ≤ elapsed t s.pcu.timebase) ∧
      s.dfa.rd + 100 < s.nvs.calibration.pulsesPerKm) :=
  ⟨by decide, ⟨rfl, fun t h => by have := Option.some.inj h; subst this; decide⟩, rfl,
    fun t h => by have := Option.some.inj h; subst this; decide, by decide⟩

/-- The hypotheses of ADistanceUnitIsCounted, for each of its three cases. -/
theorem test_witness_ADistanceUnitIsCounted :
    (let s := spaced .spd (atUnit 1234598 8);
      s.powered = true ∧ (∀ t, s.pcu.spd.edgeRecord = some t → 200 ≤ elapsed t s.pcu.timebase) ∧
      s.nvs.calibration.pulsesPerKm ≤ s.dfa.rd + 100 ∧ s.dfa.odometer < 9999999 ∧ s.dfa.odoSubCount < 9) ∧
    (let s := spaced .spd (atUnit 1234598 9);
      s.nvs.calibration.pulsesPerKm ≤ s.dfa.rd + 100 ∧ s.dfa.odometer < 9999999 ∧ s.dfa.odoSubCount = 9 ∧
      (s.dfa.odometer + 1) % 10 ≠ 0) ∧
    (let s := spaced .spd (atUnit 9999999 9);
      s.nvs.calibration.pulsesPerKm ≤ s.dfa.rd + 100 ∧ s.dfa.odometer = 9999999 ∧
      9 = min 9 (s.dfa.odoSubCount + 1)) :=
  ⟨⟨rfl, fun t h => by have := Option.some.inj h; subst this; decide, by decide, by decide, by decide⟩,
    by decide, by decide⟩

/-- With no job, with a full queue whose last job is NORMAL, and with an odometer job that waits. -/
theorem test_witness_AWholeKilometreCrossing :
    (let s := spaced .spd (atUnit 1234599 9)
     s.powered = true ∧ (∀ t, s.pcu.spd.edgeRecord = some t → 200 ≤ elapsed t s.pcu.timebase) ∧
      s.nvs.calibration.pulsesPerKm ≤ s.dfa.rd + 100 ∧ s.dfa.odometer < 9999999 ∧ s.dfa.odoSubCount = 9 ∧
      s.dfa.odometer % 10 = 9 ∧ s.nvs.recoveryDone = true ∧ s.nvs.jobCount < 8 ∧
      ∀ j ∈ s.nvs.queue, ∀ v, j.data ≠ .odometer v) ∧
    (let u : WriteJob := ⟨.cells 88 [0x00A5, 0xFF5A], .urgent, .service, none⟩
     let n : WriteJob := ⟨.cells 96 [1], .normal, .service, none⟩
     ¬({ running.nvs with queue := List.replicate 7 u ++ [n] } : Nvs).jobCount < 8 ∧ n.removable = true ∧
      ∀ j ∈ List.replicate 7 u ++ [n], ∀ v, j.data ≠ .odometer v) ∧
    let o : WriteJob := ⟨.odometer 1234500, .urgent, .internal, none⟩
    o.jobClass = .urgent ∧ ∃ v, o.data = .odometer v :=
  ⟨⟨rfl, fun t h => by have := Option.some.inj h; subst this; decide, by decide, by decide, by decide,
    by decide, rfl, by decide, fun _ h => absurd h List.not_mem_nil⟩,
    ⟨by decide, rfl, fun j h v e => by
      simp only [List.mem_append, List.mem_replicate, List.mem_singleton] at h
      rcases h with ⟨-, rfl⟩ | rfl <;> exact JobData.noConfusion e⟩, rfl, _, rfl⟩

theorem test_witness_AGateExpirySetsTheSpeeds :
    let s := { running with pcu.spd := ⟨some 99000, ⟨12, some 0, some 99000, none⟩, some 1000000⟩ }
    s.powered = true ∧ s.pcu.gateTimer.isSome = true ∧
      ∀ ch, 2 ≤ (s.pcu.input ch).gate.count →
        (s.pcu.input ch).gate.firstEdge.isSome = true ∧ (s.pcu.input ch).gate.lastEdge.isSome = true :=
  ⟨rfl, rfl, fun ch => by cases ch <;> decide⟩

theorem test_witness_ThePulseTimersExpire :
    let s := { running with pcu := { running.pcu with
      spd := { running.pcu.spd with quietTimer := some 1 }, eng := { running.pcu.eng with quietTimer := some 1 }
      engineSecondsTimer := some 1, stationaryTimer := some 1 } }
    s.powered = true ∧ s.pcu.spd.quietTimer.isSome = true ∧ s.pcu.eng.quietTimer.isSome = true ∧
      s.pcu.engineSecondsTimer.isSome = true ∧ s.pcu.stationaryTimer.isSome = true ∧
      s.pcu.stationarySecondsTimer.isSome = true := by
  decide

/-- A part whose injector has been open for 3,200 µs, with this remainder. -/
def injecting (rf timebase : Nat) (long : Bool) : State :=
  { running with
    pcu := { running.pcu with timebase := BitVec.ofNat 24 timebase, openPulse := some ⟨0, long⟩, longPulseTimer := some 1 }
    dfa := { running.dfa with rf := rf } }

/-- A pulse of 401 µs adds 4 µs; a long one with the dead time of 25,000 µs would add none. -/
theorem test_witness_TheInjectorPulseIsMeasured :
    (let s := injecting 295 401 false;
      s.powered = true ∧ s.pcu.openPulse = some ⟨0, false⟩ ∧ s.pcu.longPulseTimer.isSome = true ∧
      401 = min 25000 (elapsed 0 s.pcu.timebase) ∧
      s.dfa.rf + (401 - s.nvs.calibration.injectorDeadTime) * s.nvs.calibration.injectorsPerPulse <
        s.nvs.calibration.injectorUsPerMl) ∧
    let s := { injecting 0 5 true with nvs.calibration.injectorDeadTime := 25000 }
    s.pcu.openPulse = some ⟨0, true⟩ ∧
      s.dfa.rf + (25000 - s.nvs.calibration.injectorDeadTime) * s.nvs.calibration.injectorsPerPulse <
        s.nvs.calibration.injectorUsPerMl := by
  decide +kernel

/-- 02, millilitres from one pulse. -/
theorem test_witness_MillilitresAreCounted :
    let s := injecting 150 3200 false
    s.powered = true ∧ s.pcu.openPulse = some ⟨0, false⟩ ∧ 3200 = min 25000 (elapsed 0 s.pcu.timebase) ∧ 0 < 37 ∧
      250 < s.nvs.calibration.injectorUsPerMl ∧
      s.dfa.rf + (3200 - s.nvs.calibration.injectorDeadTime) * s.nvs.calibration.injectorsPerPulse =
        37 * s.nvs.calibration.injectorUsPerMl + 250 := by
  decide +kernel

/-- A part at a fuel sample with this E, level and standing time. -/
def sampling (e : Option Nat) (level time : Nat) : State :=
  { running with
    dfa := { running.dfa with estimate := e }
    adc := { running.adc with fuelLevel := some level }
    pcu := { running.pcu with stationaryTime := time } }

/-- No sender value, the first setting, a refuel of 50 at 10 s, a rise of 30 and of 50 at 9 s, a fall of 30, and
agreement at 29. -/
theorem test_witness_AFuelSample :
    running.adc.fuelLevel = none ∧ running.dfa.fuelSampleTimer.isSome = true ∧
    (let s := sampling none 1200 10;
      s.powered = true ∧ s.dfa.fuelSampleTimer.isSome = true ∧ s.adc.faults.fuel.flag = false ∧
      s.adc.fuelLevel = some 1200 ∧ 1000 = min s.nvs.calibration.tankCapacity 1200 ∧ s.dfa.estimate = none) ∧
    (let s := sampling (some 120) 170 10;
      10 ≤ s.pcu.stationaryTime ∧ 170 = min s.nvs.calibration.tankCapacity 170 ∧ 120 + 50 ≤ 170) ∧
    (let s := sampling (some 120) 170 9;
      ¬(10 ≤ s.pcu.stationaryTime ∧ 120 + 50 ≤ 170) ∧ 120 + 30 ≤ 170) ∧
    (let s := sampling (some 120) 150 10;
      ¬(10 ≤ s.pcu.stationaryTime ∧ 120 + 50 ≤ 150) ∧ 120 + 30 ≤ 150) ∧
    (90 + 30 ≤ 120 ∧ (sampling (some 120) 90 10).adc.fuelLevel = some 90) ∧
    (149 < 120 + 30 ∧ 120 < 149 + 30 ∧ (sampling (some 120) 149 10).adc.fuelLevel = some 149) := by
  decide +kernel

/-- An input at its accepted level, one at its fourth differing sample, one at its third, and one settling; a sample that
leaves the mode, and one that changes it. -/
theorem test_witness_ALevelIsAcceptedAfterItsSamples :
    (running.powered = true ∧
      ∀ i, (running.sws.inputs.get i).accepted = levelOf (pinActive 0xFFF i)) ∧
    (let x : SwitchState := ⟨.inactive, 3, true⟩;
      let s := { running with sws := { running.sws with inputs := { running.sws.inputs with doorDrv := x } } }
      x = s.sws.inputs.get .doorDrv ∧ x.accepted ≠ .unsettled ∧ x.accepted ≠ levelOf (pinActive 0xFFB .doorDrv) ∧
      4 ≤ x.count + 1 ∧ s.pmc.mode ≠ .standby) ∧
    (let x : SwitchState := ⟨.inactive, 2, true⟩;
      x.accepted ≠ .unsettled ∧ x.count + 1 < 4) ∧
    (quiet.sws.inputs.get .doorDrv).accepted = .unsettled ∧
    (after (.switchSample 0xFFB) running).pmc.mode = running.pmc.mode ∧
    (let s := { running with sws := { running.sws with
        inputs := { running.sws.inputs with ignOn := ⟨.active, 3, false⟩ } } };
      (after (.switchSample 0xFFE) s).pmc.mode ≠ s.pmc.mode) :=
  ⟨⟨rfl, fun i => by cases i <;> decide⟩, by decide, by decide, rfl, by decide +kernel, by decide +kernel⟩

/-- A part in a mode whose IGN_ON stands at a level with a count. -/
def ignition (m : Mode) (x : SwitchState) : State :=
  { running with
    pmc := { running.pmc with mode := m }
    sws := { running.sws with inputs := { running.sws.inputs with ignOn := x } } }

theorem test_witness_IgnitionChangesTheMode :
    (let s := ignition .run ⟨.active, 3, false⟩;
      s.powered = true ∧ s.pmc.mode = .run ∧ s.sws.inputs.ignOn.accepted = .active ∧
      (0xFFE : BitVec 12).getLsbD 0 = false ∧ 3 ≤ s.sws.inputs.ignOn.count) ∧
    (let s := ignition .shutdown ⟨.inactive, 3, true⟩;
      s.pmc.mode = .shutdown ∧ s.pmc.supplyLow = false ∧ s.sws.inputs.ignOn.accepted = .inactive ∧
      (0xFFF : BitVec 12).getLsbD 0 = true ∧ 3 ≤ s.sws.inputs.ignOn.count) ∧
    (let s := ignition .standby ⟨.inactive, 1, true⟩;
      s.pmc.mode = .standby ∧ s.pmc.supplyLow = false ∧ s.sws.inputs.ignOn.accepted = .inactive ∧
      1 ≤ s.sws.inputs.ignOn.count) ∧
    (let s := ignition .startup ⟨.unsettled, 3, true⟩;
      s.pmc.mode = .startup ∧ s.nvs.recoveryDone = true ∧ s.sws.inputs.ignOn.accepted = .unsettled ∧
      s.sws.inputs.ignOn.lastActive = (0xFFF : BitVec 12).getLsbD 0 ∧ 3 ≤ s.sws.inputs.ignOn.count) := by
  decide

theorem test_witness_ABatteryConversion :
    (converting .battery 7 running).powered = true ∧
      (converting .battery 7 running).adc.conversion = some ⟨.battery, 7, some 1⟩ := by
  decide

/-- The five cases at their boundary readings 4, 251, 3, 252 and counts 48 and 49; the other channels. -/
theorem test_witness_ASenderReading :
    (let s := converting .oil 7 running;
      let f := s.adc.faults.get .oil
      s.powered = true ∧ s.adc.conversion = some ⟨.oil, 7, some 1⟩ ∧ f.flag = false ∧
      4 ≤ (4 : Byte).toNat ∧ (4 : Byte).toNat ≤ 251 ∧ (251 : Byte).toNat ≤ 251 ∧
      ((3 : Byte).toNat ≤ 3 ∨ 252 ≤ (3 : Byte).toNat) ∧ 252 ≤ (252 : Byte).toNat) ∧
    (let faulty (n : Nat) : State := { converting .oil 7 running with
        adc := { (converting .oil 7 running).adc with faults := { running.adc.faults with oil := ⟨true, none, n⟩ } } };
      ((faulty 48).adc.faults.get .oil).flag = true ∧ ((faulty 48).adc.faults.get .oil).inRangeCount < 49 ∧
      49 ≤ ((faulty 49).adc.faults.get .oil).inRangeCount) ∧
    (after (.conversionComplete 255) (converting .fuel 7 running)).adc.faults.fuel.persistence.isSome = true ∧
    (converting .air 7 running).adc.conversion = some ⟨.air, 7, some 1⟩ ∧
    (converting .ref 7 running).adc.conversion = some ⟨.ref, 7, some 1⟩ ∧
    (converting .spare 7 running).adc.conversion = some ⟨.spare, 7, some 1⟩ ∧
    (converting .sense 7 running).adc.conversion = some ⟨.sense, 7, some 1⟩ ∧ running.chk.phase ≠ .driven := by
  decide +kernel

/-- A part whose SPEEDO has this record. -/
def speedo (r : GaugeRecord) (s : State) : State :=
  { s with gdr := { s.gdr with gauges := { s.gdr.gauges with speedo := r } } }

/-- A gauge that tracks and one PARKED; sweeps up at 751, which reaches 767, and at 750; a sweep down that comes within
the deadband of 2, and one that does not; parking from 8 and from 9. -/
theorem test_witness_ARefreshMovesTheGauges :
    (let at_ (x : Nat) (ph : Phase) : State := speedo ⟨0, x, ph, .none, ⟨false, false⟩, ⟨0, 0⟩⟩ running
     let to_ (x : Nat) (ph : Phase) : GaugeRecord := (after .refreshExpiry (at_ x ph)).gdr.gauges.speedo
     ((to_ 751 .sweepUp).current = 767 ∧ (to_ 751 .sweepUp).phase = .sweepDown) ∧
      ((to_ 750 .sweepUp).current = 766 ∧ (to_ 750 .sweepUp).phase = .sweepUp) ∧
      ((to_ 18 .sweepDown).current = 2 ∧ (to_ 18 .sweepDown).phase = .tracking) ∧
      ((to_ 19 .sweepDown).current = 3 ∧ (to_ 19 .sweepDown).phase = .sweepDown) ∧
      ((to_ 8 .parking).current = 0 ∧ (to_ 8 .parking).phase = .parked) ∧
      ((to_ 9 .parking).current = 1 ∧ (to_ 9 .parking).phase = .parking)) ∧
    let s := speedo ⟨323, 323, .tracking, .none, ⟨false, false⟩, ⟨0, 0⟩⟩
      { running with pcu := { running.pcu with speedV := 1100 } }
    s.powered = true ∧ s.gdr.refreshTimer.isSome = true ∧ s.pmc.mode ≠ .shutdown ∧
      (s.gdr.gauges.get .speedo).hold = .none ∧ 2 = s.nvs.calibration.gaugeDeadband.get .speedo ∧
      8 = s.nvs.calibration.gaugeSlew.get .speedo ∧ (s.gdr.gauges.get .speedo).current ≤ 767 ∧
      phaseTarget (trackingValue (takeGaugeCalibration s.toPanel) .speedo) .tracking ≤ 767 ∧
      (s.gdr.gauges.get .fuel).phase = .parked := by
  decide +kernel

/-- A gauge that tracks, one PARKED, one whose hold the check waits for, one whose hold it no longer waits for, and
one whose hold is GRANTED. -/
theorem test_witness_ARefreshSetsTheCoilDuties :
    (let s := speedo ⟨320, 320, .tracking, .none, ⟨false, false⟩, ⟨0, 0⟩⟩
      { running with pcu := { running.pcu with speedV := 1000 } }
     s.powered = true ∧ s.gdr.refreshTimer.isSome = true ∧ s.pmc.mode ≠ .shutdown ∧
      (s.gdr.gauges.get .speedo).hold = .none ∧
      ((after .refreshExpiry s).gdr.gauges.get .speedo).current + s.nvs.calibration.elecOffset.get .speedo = 320 ∧
      ((after .refreshExpiry s).gdr.gauges.get .speedo).phase = .tracking ∧
      (s.gdr.gauges.get .fuel).hold = .none ∧ (s.gdr.gauges.get .fuel).phase = .parked) ∧
    (let s := speedo ⟨320, 320, .tracking, .requested, ⟨false, false⟩, ⟨0, 0⟩⟩
      { running with chk := { running.chk with phase := .holdWait, currentItem := some (.coil .speedo .sin) } }
     (s.gdr.gauges.get .speedo).hold = .requested ∧ s.chk.phase = .holdWait ∧
      s.chk.currentItem = some (.coil .speedo .sin) ∧
      ¬(running.chk.phase = .holdWait ∧ running.chk.currentItem = some (.coil .speedo .sin))) ∧
    (speedo ⟨320, 320, .tracking, .granted, ⟨false, false⟩, ⟨0, 255⟩⟩ running).gdr.gauges.speedo.hold = .granted := by
  decide +kernel

theorem test_witness_AGaugeCurveNeverFalls :
    let c := romDefaults.gaugeCurves.temp
    strictlyRising (c.map Prod.fst) = true ∧ neverFalling (c.map Prod.snd) = true ∧ (-40 : Int) ≤ 150 ∧
      c.head? = some (40, 0) ∧ c.getLast? = some (130, 255) := by
  decide

/-- An item not under test, of a gauge held and not held; the lamp, the sin and the cos coil under test; no recovery. -/
theorem test_witness_AnOverloadRecordsAShort :
    let on (i : CheckItem) : State := { running with chk := { running.chk with
      state := .running, phase := .driven, currentItem := some i, driveTime := some 0 } }
    let held := speedo ⟨0, 0, .tracking, .granted, ⟨false, false⟩, ⟨255, 0⟩⟩ (on (.coil .speedo .sin))
    running.powered = true ∧ running.nvs.recoveryDone = true ∧ underTest running.toPanel (.lamp .brake) = false ∧
      underTest held.toPanel (.coil .speedo .cos) = false ∧ (held.gdr.gauges.get .speedo).hold = .granted ∧
      (running.gdr.gauges.get .speedo).hold = .none ∧
      (∀ i ∈ [CheckItem.lamp .charge, .coil .speedo .sin, .coil .oilp .cos],
        (on i).chk.phase = .driven ∧ (on i).chk.currentItem = some i) ∧
      { running with nvs.recoveryDone := false }.nvs.recoveryDone = false := by decide +kernel

/-- The check at its first item, with a conversion 7,999 µs and one 8,000 µs after the drive, and one at each side of the
timebase's half. -/
theorem test_witness_ASenseReadingEndsTheStep :
    let s := converting .sense 8000 (after (.checkStart .front) running)
    s.powered = true ∧ s.adc.conversion = some ⟨.sense, 8000, some 1⟩ ∧ s.chk.phase = .driven ∧
      s.chk.currentItem = some (.lamp .oil) ∧ s.chk.driveTime = some 0 ∧ 8000 ≤ elapsed 0 8000 ∧
      elapsed 0 8000 < 8388608 ∧ elapsed 0 7999 < 8000 ∧ elapsed 0 8388607 < 8388608 ∧
      8388608 ≤ elapsed 0 8388608 := by
  decide +kernel

/-- Items of each kind under test; the readings at each threshold; a gauge that may return from DISABLED, one that may
not, and one that is not DISABLED, in RUN and in SHUTDOWN. -/
theorem test_witness_ASenseReadingEndsTheStep_items :
    let on (i : CheckItem) : State := converting .sense 8000 { running with chk := { running.chk with
      state := .running, phase := .driven, currentItem := some i, driveTime := some 0 } }
    let tested (phase : Phase) (sin : Bool) : State :=
      speedo ⟨300, 0, phase, .granted, ⟨sin, true⟩, ⟨0, 255⟩⟩ (on (.coil .speedo .cos))
    (∀ i ∈ [CheckItem.lamp .charge, .coil .speedo .sin, .coil .speedo .cos, .coil .oilp .cos],
      (on i).powered = true ∧ (on i).adc.conversion = some ⟨.sense, 8000, some 1⟩ ∧ (on i).chk.phase = .driven ∧
      (on i).chk.currentItem = some i ∧ (on i).chk.driveTime = some 0) ∧
    ([19, 20, 239, 240] : List Byte).map (fun r => decide (r.toNat ≤ 19 ∨ 239 < r.toNat)) = [true, false, false, true] ∧
    ((tested .disabled false).gdr.gauges.get .speedo).phase = .disabled ∧
    ((tested .disabled false).gdr.gauges.get .speedo).faulted.sin = false ∧
    ((tested .disabled true).gdr.gauges.get .speedo).faulted.sin = true ∧
    ((tested .tracking false).gdr.gauges.get .speedo).phase ≠ .disabled ∧ (tested .disabled false).pmc.mode = .run ∧
    { tested .disabled false with pmc.mode := .shutdown }.pmc.mode = .shutdown ∧
    ((on (.coil .speedo .sin)).gdr.gauges.get .tacho).hold = .none := by
  decide +kernel

/-- R82, R83, R85: a DISABLED gauge whose coils are found sound tracks again at its hold's release in RUN, with its
duties set from Current; one whose cos coil is open stays DISABLED, with its coils off. -/
theorem test_gauge_returns_at_release :
    let s := speedo ⟨0, 0, .disabled, .granted, ⟨false, true⟩, ⟨0, 255⟩⟩ (converting .sense 8000 { running with
      chk := { running.chk with
        state := .running, phase := .driven, currentItem := some (.coil .speedo .cos), driveTime := some 0 } })
    (after (.conversionComplete 120) s).gdr.gauges.get .speedo =
      ⟨0, 0, .tracking, .none, ⟨false, false⟩, ⟨0, 255⟩⟩ ∧
    (after (.conversionComplete 19) s).gdr.gauges.get .speedo =
      ⟨0, 0, .disabled, .none, ⟨false, true⟩, ⟨0, 0⟩⟩ := by
  decide +kernel

/-- A condition still present; a latching kind not acknowledged; a condition gone. -/
theorem test_witness_AResoundExpirySoundsAgain :
    let present : WarningEntry := ⟨.overheat, true, ⟨false, false⟩, ⟨true, false⟩, some 1, 0⟩
    let call : WarningEntry := ⟨.rearCall, false, ⟨false, false⟩, ⟨false, false⟩, some 1, 0⟩
    let gone : WarningEntry := ⟨.lowFuel, false, ⟨false, false⟩, ⟨false, false⟩, some 1, 0⟩
    (warned [present] running).powered = true ∧ (warned [present] running).wrc.entry .overheat = some present ∧
      present.resound.isSome = true ∧ present.conditionPresent = true ∧
      (warned [call] running).wrc.entry .rearCall = some call ∧ isLatching .rearCall = true ∧
      call.acked.front = false ∧ (warned [gone] running).wrc.entry .lowFuel = some gone ∧
      gone.conditionPresent = false ∧ isLatching .lowFuel = false := by
  decide +kernel

/-- A part with this list and F player. -/
def playing (entries : List WarningEntry) (state : PlayerState) : State :=
  warned entries { running with wrc := { running.wrc with players := ⟨⟨state, some 1⟩, ⟨.idle, none⟩⟩ } }

theorem test_witness_ThePlayersFollowTheirPatterns :
    (let s := playing [entryOf .overheat] (.strike .overheat 1);
      s.powered = true ∧ (s.wrc.players.get .front).state = .strike .overheat 1 ∧
      s.wrc.selection .front = some .overheat ∧ isContinuous .overheat = true) ∧
    (let s := playing [] (.strike .overheat 1);
      s.wrc.selection .front ≠ some .overheat ∧ isContinuous .overheat = true) ∧
    (let s := playing [entryOf .lowFuel] (.strike .lowFuel 5);
      (s.wrc.players.get .front).state = .strike .lowFuel 5 ∧ isContinuous .lowFuel = false ∧
      patternLength (kindPattern .lowFuel) ≤ 5 ∧ s.wrc.entry .lowFuel = some (entryOf .lowFuel) ∧
      (entryOf .lowFuel).pending.get .front = true) ∧
    (playing [entryOf .lowFuel] (.gap .lowFuel 2)).wrc.players.front.state = .gap .lowFuel 2 ∧
    (playing [entryOf .lowFuel] (.ending .lowFuel 5)).wrc.players.front.state = .ending .lowFuel 5 ∧
    (playing [entryOf .lowFuel] .rest).wrc.players.front.state = .rest := by
  decide +kernel

/-- The three timers; a level that rises, one that falls with a strike and a gap of its kind, and one that stands. -/
theorem test_witness_TheRunWindowsClose :
    let s := { running with
      pmc := { running.pmc with bulbCheckTimer := some 1, beltTimer := some 1 }
      wrc := { running.wrc with
        beltWindow := true
        levels := { running.wrc.levels with seatBelt := true }
        entries := [entryOf .seatBelt]
        players := ⟨⟨.strike .seatBelt 1, some 1⟩, ⟨.gap .seatBelt 2, some 1⟩⟩ } }
    let t := after .linkGraceExpiry s
    let u := after .beltTimerExpiry s
    s.powered = true ∧ s.wrc.linkGraceTimer.isSome = true ∧ s.pmc.bulbCheckTimer.isSome = true ∧
      s.pmc.beltTimer.isSome = true ∧
      (s.wrc.levels.get .linkLost = false ∧ t.wrc.levels.get .linkLost = true) ∧
      (s.wrc.levels.get .seatBelt = true ∧ u.wrc.levels.get .seatBelt = false ∧ s.wrc.entry .seatBelt ≠ none ∧
        u.wrc.players = ⟨⟨.ending .seatBelt 1, some 1⟩, ⟨.idle, none⟩⟩) ∧
      t.wrc.levels.get .seatBelt = s.wrc.levels.get .seatBelt := by
  decide +kernel

/-- The day timer at 86,398 and 86,399, the day count at 65,534 and 65,535. -/
theorem test_witness_AOneSecondEvent :
    let at_ (timer day : Nat) : State := { running with svm := { running.svm with dayTimer := timer, dayCount := day } }
    running.powered = true ∧ (at_ 86398 0).svm.dayTimer < 86399 ∧
      (86399 ≤ (at_ 86399 65535).svm.dayTimer ∧ 65535 ≤ (at_ 86399 65535).svm.dayCount) ∧
      (at_ 86399 65534).svm.dayCount < 65535 ∧ (at_ 86399 65534).nvs.recoveryDone = true ∧
      (at_ 86399 65534).nvs.jobCount ≤ 5 ∧ (at_ 86399 65534).pmc.supplyLow = false ∧
      ∀ j ∈ (at_ 86399 65534).nvs.queue, j.data.covers (.cells 32 (dayWords 65535)) = false := by
  decide

/-- A part with a job in flight and these jobs pending. -/
def writing (j : WriteJob) (queue : List WriteJob) (s : State) : State :=
  { s with nvs := { s.nvs with inFlight := some j, cellTimer := some 1, queue := queue } }

theorem test_witness_ACellIsProgrammed :
    (let j : WriteJob := ⟨.cells 72 [1, 2, 3, 4], .normal, .front, some 72⟩;
      let u : WriteJob := ⟨.odometer 1234600, .urgent, .internal, none⟩
      let s := writing j [u] running
      s.powered = true ∧ s.nvs.inFlight = some j ∧ j.progress = some 72 ∧ 72 < 72 + j.data.words.length ∧
      Memory.wf s.nvs.cells = true ∧ 72 + 1 < 72 + j.data.words.length ∧ j.jobClass = .normal ∧
      s.nvs.draining = false ∧ u ∈ s.nvs.queue ∧ u.jobClass = .urgent) ∧
    (let j : WriteJob := ⟨.odometer 1234600, .urgent, .internal, some 31⟩;
      let s := writing j [] { running with nvs := { running.nvs with ringPointer := 14 } }
      30 = 2 * ((s.nvs.ringPointer + 1) % 16) ∧ 30 ≤ 31 ∧ 31 < 30 + j.data.words.length ∧ 31 + 1 = 30 + 2 ∧
      s.nvs.draining = false) ∧
    (let j : WriteJob := ⟨.odometer 1234600, .urgent, .internal, some 0⟩;
      0 = 2 * ((running.nvs.ringPointer + 1) % 16) ∧ 0 + 1 < 0 + j.data.words.length ∧ j.jobClass = .urgent) := by
  decide +kernel

theorem test_witness_ABankSwitchCompletes :
    let j : WriteJob := ⟨.cells 88 [0x00B5, 0xFF4A], .urgent, .service, some 89⟩
    let s := writing j [] banked
    s.powered = true ∧ s.nvs.inFlight = some j ∧ j.progress = some 89 ∧ s.nvs.draining = false ∧
      Memory.wf s.nvs.cells = true := by
  decide +kernel

theorem test_witness_APowerOnReset :
    (running.powered = true ∧ running.nvs.inFlight = none) ∧
    (let j : WriteJob := ⟨.cells 72 [1, 2, 3, 4], .normal, .front, some 73⟩;
      (writing j [] running).nvs.inFlight = some j ∧ j.progress = some 73) ∧
    (dead.powered = false ∧ false = formatMatches dead.nvs.cells) ∧
    true = formatMatches [(91, 0x2610)] := by
  decide +kernel

/-- An item at its field limits, with the greatest remainders that are recovered. -/
theorem test_witness_AStoredServiceItemIsRecovered :
    let it : ServiceItem := ⟨true, 15, 65000, 1000, 40000, 200, true, .inactive⟩
    it.labelCode ≤ 15 ∧ it.intervalKm ≤ 65000 ∧ it.intervalDays ≤ 1000 ∧ it.lastKm ≤ 105535 ∧ it.lastDay ≤ 1223 ∧
      105535 - it.lastKm < 65536 ∧ 1223 - it.lastDay < 1024 ∧
      ∀ k, k < 4 → Memory.read (run 84 (itemWords it)) (64 + 4 * SlotId.s5.idx + k) = (itemWords it).getD k 0 := by
  decide +kernel

/-- A link that takes a message at once. -/
theorem test_running_is_ready : Ready .front running ∧ Ready .rear running ∧ Ready .service running :=
  ⟨⟨rfl, rfl, rfl, rfl⟩, ⟨rfl, rfl, rfl, rfl⟩, rfl, rfl, rfl, rfl⟩

/-- A part whose link ports are changed. -/
def ported (l : Link) (f : LinkPort → LinkPort) (s : State) : State := s.withPort l (f (s.lnk.ports.get l))

/-- A PRESENT link and an ABSENT one. -/
theorem test_witness_AReceivedMessageIsTaken :
    (let s := ported .rear (fun port => { port with present := true, presenceTimer := some 5 }) running
     let port := s.lnk.ports.get .rear
     Ready .rear s ∧ port.looking = true ∧ port.receiveState = .idle ∧ port.received = [] ∧ port.checkSum = 0 ∧
      port.spoiled = false ∧ port.gapTimer = none ∧ port.present = true) ∧
    Ready .front running ∧ running.lnk.ports.front.present = false :=
  ⟨⟨⟨rfl, rfl, rfl, rfl⟩, rfl, rfl, rfl, rfl, rfl, rfl, rfl⟩, test_running_is_ready.1, rfl⟩

/-- A port within a message of a known code that lacks its parameter, within one that lacks its check alone, and
within one of an unknown code; a link that is ready, one whose reply stands, and one whose message waits. -/
theorem test_witness_CharactersAreFramed :
    exec (.gapTimerExpiry .rear) (ported .rear (LinkPort.begin 14) running) =
      .next (after (.gapTimerExpiry .rear) (ported .rear (LinkPort.begin 14) running)) ∧
    let known := (ported .rear (LinkPort.begin 14) running).lnk.ports.rear
    let last := (ported .rear (LinkPort.begin 1) running).lnk.ports.rear
    let replying := after (.presence .rear) running
    let waiting := after (.presence .rear) replying
    let unknown := (ported .rear (LinkPort.begin 34) running).lnk.ports.rear
    let noisy : BitVec 33 := cleanCharacter 3 false ^^^ 0x1000
    running.powered = true ∧ running.lnk.ports.rear.looking = true ∧ running.lnk.ports.rear.receiveState = .idle ∧
      ({ running.lnk.ports.rear with looking := false } : LinkPort).looking = false ∧
      majority 0x1FFFFFFFF 0 = true ∧ known.looking = true ∧ majority noisy 0 = false ∧
      (rxChar noisy).mark = false ∧ (rxChar noisy).errored = true ∧ known.receiveState ≠ .idle ∧
      known.received.length < 16 ∧ known.received = [14] ∧ paramCount 14 = some 1 ∧ 0 < 1 ∧
      unknown.receiveState = .inUnknown ∧ unknown.gapTimer.isSome = true ∧
      (last.looking = true ∧ last.receiveState = .inMessage ∧ last.received = [1] ∧ paramCount 1 = some 0 ∧
        last.checkSum + 3 ≠ 0 ∧ (rxChar (cleanCharacter 3 false)).mark = false ∧
        majority (cleanCharacter 3 false) 0 = false) ∧
      (replying.lnk.ports.rear.reply.isSome = true ∧ replying.lnk.ports.rear.waiting = none ∧
        waiting.lnk.ports.rear.waiting.isSome = true) :=
  ⟨rfl, by decide +kernel⟩

/-- A gap within a message of a known code, and within unknown ones, bad and good, on an ABSENT and a PRESENT link; a
presence timer; replies with nothing, a good, a bad and an unknown message waiting; and the reply of RESTART. -/
theorem test_witness_TheLinkTimersExpire :
    let a := (ported .rear (LinkPort.begin 14) running).lnk.ports.rear
    let u (sum : Byte) (present : Bool) := ported .rear (fun port =>
      { port.begin 34 with received := [34, sum - 34], checkSum := sum, present := present }) running
    let b := (ported .service (fun port => { port with present := true, presenceTimer := some 1 }) running).lnk.ports.service
    let c := (after (.presence .front) running).lnk.ports.front
    let d := (after (.clockRead .front) (after (.presence .front) running))
    let w (m : Message) := (ported .front (fun port => { port with waiting := some m }) d).lnk.ports.front
    let e := after (.restart .service) running
    (a.gapTimer.isSome = true ∧ a.receiveState = .inMessage) ∧
      (Ready .rear (u 1 false) ∧ (u 1 false).lnk.ports.rear.gapTimer.isSome = true ∧
        (u 1 false).lnk.ports.rear.receiveState = .inUnknown ∧ (u 1 false).lnk.ports.rear.checkSum ≠ 0) ∧
      ((u 0 false).lnk.ports.rear.spoiled = false ∧ (u 0 false).lnk.ports.rear.checkSum = 0 ∧
        (∀ c ∈ (u 0 false).lnk.ports.rear.received.head?, paramCount c.toNat = none) ∧
        (u 0 false).lnk.ports.rear.present = false ∧ (u 0 true).lnk.ports.rear.present = true) ∧
      b.presenceTimer.isSome = true ∧ (c.reply.isSome = true ∧ c.waiting = none) ∧
      (d.lnk.ports.front.reply.isSome = true ∧ d.lnk.ports.front.waiting = some (.good .clockRead) ∧
        d.nvs.recoveryDone = true ∧ d.lnk.restartArmed = false) ∧
      ((w .bad).reply.isSome = true ∧ (w .bad).waiting = some .bad ∧ (w .unknown).waiting = some .unknown) ∧
      (e.lnk.ports.service.reply.isSome = true ∧ e.lnk.restartArmed = true) := by
  simp only [Ready]
  decide +kernel

/-- A link ready, a request the table leaves out on each link, one it does not, a reply standing, and a message
waiting. -/
theorem test_witness_RequestsAreTakenInTurn :
    Ready .rear running ∧ permitted .rear .restart = false ∧ permitted .service .call = false ∧
      permitted .front (.rearQuietSet 0) = false ∧ permitted .rear .checkStart = false ∧
      permitted .rear .clockRead = true ∧
      (let s := after (.presence .rear) running;
        s.powered = true ∧ s.lnk.ports.rear.reply.isSome = true ∧ s.lnk.ports.rear.waiting = none) ∧
      (after (.presence .rear) (after (.presence .rear) running)).lnk.ports.rear.waiting.isSome = true :=
  ⟨test_running_is_ready.2.1, rfl, rfl, rfl, rfl, rfl, by decide +kernel, by decide +kernel⟩

theorem test_witness_ReadsChangeNothingElse :
    Ready .service running ∧ (2 : Byte).toNat = TripId.journey.idx ∧ 4 ≤ (4 : Byte).toNat :=
  ⟨test_running_is_ready.2.2, rfl, by decide⟩

/-- 59 s and 60 s of run time; a speed below and one at the clamp. -/
theorem test_witness_TheAverageSpeedIsRounded :
    (59 < 60 ∧ averageSpeed ⟨12345, 0, 59⟩ = none) ∧ averageSpeed ⟨100, 0, 60⟩ = some 600 ∧
      averageSpeed ⟨9999999, 0, 60⟩ = some 2999 := by
  decide +kernel

theorem test_witness_ClearingReadsClearTheirOwnLink :
    Ready .front running ∧ (511 : BitVec 16).toNat < 512 ∧ 512 ≤ (512 : BitVec 16).toNat :=
  ⟨test_running_is_ready.1, by decide, by decide⟩

/-- REAR may not reset TRIP_A; FRONT may; SERVICE may reset TANK. -/
theorem test_witness_ATripReset :
    Ready .rear running ∧ Ready .front running ∧ 4 ≤ (4 : Byte).toNat ∧ (0 : Byte).toNat = TripId.tripA.idx ∧
      ¬Owns running.toPanel .rear .tripA ∧ Owns running.toPanel .front .tripA ∧
      (3 : Byte).toNat = TripId.tank.idx :=
  ⟨test_running_is_ready.2.1, test_running_is_ready.1, by decide, by decide, nofun, rfl, by decide⟩

/-- R51: JOURNEY is REAR's while REAR is fitted and PRESENT, and FRONT's otherwise; TANK is no link's. -/
theorem test_witness_Owns :
    let s : State := { running with
      pmc.rearFitted := true, lnk.ports.rear := { running.lnk.ports.rear with present := true } }
    let t : State := { s with lnk.ports.rear := { s.lnk.ports.rear with present := false } }
    Owns s.toPanel .rear .journey ∧ ¬Owns s.toPanel .front .journey ∧ Owns t.toPanel .front .journey ∧
      ¬Owns t.toPanel .rear .journey ∧ ¬Owns s.toPanel .front .tank := by
  refine ⟨.inl ⟨rfl, rfl, rfl⟩, ?_, .inr ⟨rfl, .inr rfl⟩, ?_, id⟩ <;> simp [Owns]

theorem test_witness_TripsAreHeldAndDirected :
    Ready .front running ∧ (1 : Byte).toNat = TripId.tripB.idx ∧ TripId.tripB ≠ .tank ∧
      Owns running.toPanel .front .tripB ∧ Ready .service running ∧ (3 : Byte).toNat = 3 ∧ 4 ≤ (4 : Byte).toNat ∧
      Owns running.toPanel .front .journey ∧ Ready .rear running ∧ ¬Owns running.toPanel .rear .tripB ∧
      ¬Owns running.toPanel .rear .journey ∧ ¬9999 < (9999 : BitVec 16).toNat ∧ 9999 < (10000 : BitVec 16).toNat :=
  ⟨test_running_is_ready.1, by decide, by decide, rfl, test_running_is_ready.2.2, by decide, by decide,
    .inr ⟨rfl, .inr rfl⟩, test_running_is_ready.2.1, nofun, by simp only [Owns]; decide, by decide, by decide⟩

/-- OVERHEAT acknowledged from FRONT, asked for by REAR, and BRAKE, which is not ackable. -/
theorem test_witness_AWarningIsAcknowledged :
    let s := warned [entryOf .overheat, entryOf .brake] running
    Ready .front s ∧ Ready .rear s ∧ (2 : Byte).toNat = kindNumber .overheat ∧
      s.wrc.entry .overheat = some (entryOf .overheat) ∧ s.wrc.entry .arrival = none ∧
      (true = ((kindSounders .overheat).front && Link.front != .rear)) ∧ isAckable .overheat = true ∧
      (false = ((kindSounders .overheat).front && Link.rear != .rear)) ∧
      (false = ((kindSounders .overheat).rear && Link.rear != .front)) ∧
      (3 : Byte).toNat = kindNumber .brake ∧ s.wrc.entry .brake = some (entryOf .brake) ∧ isAckable .brake = false :=
  ⟨⟨rfl, rfl, rfl, rfl⟩, ⟨rfl, rfl, rfl, rfl⟩, by decide +kernel⟩

theorem test_witness_ACallRaisesItsWarning :
    Ready .rear quiet ∧ quiet.pmc.mode = .startup ∧ Ready .front quiet ∧ quiet.pmc.mode ≠ .run ∧
      Ready .rear running ∧ running.pmc.mode ≠ .startup ∧
      running.nvs.calibration.warningEnable.getLsbD 5 = true ∧ running.wrc.entry .rearCall = none ∧
      ({ running with nvs.calibration.warningEnable := 0 } : State).nvs.calibration.warningEnable.getLsbD 5 = false ∧
      (warned [entryOf .rearCall] running).wrc.entry .rearCall = some (entryOf .rearCall) ∧
      Ready .front running ∧ running.pmc.mode = .run ∧
      running.nvs.calibration.warningEnable.getLsbD 10 = true ∧ running.wrc.entry .arrival = none ∧
      ({ running with nvs.calibration.warningEnable := 0 } : State).nvs.calibration.warningEnable.getLsbD 10 = false ∧
      (warned [entryOf .arrival] running).wrc.entry .arrival = some (entryOf .arrival) :=
  ⟨⟨rfl, rfl, rfl, rfl⟩, rfl, ⟨rfl, rfl, rfl, rfl⟩, by decide, test_running_is_ready.2.1, by decide, by decide,
    by decide, by decide, by decide, test_running_is_ready.1, rfl, by decide, by decide, by decide, by decide⟩

/-- The setpoints 299, 300, 2500 and 2501; OVERSPEED clear and set; the values 0, 1 and 2 of rear quiet. -/
theorem test_witness_SetpointAndRearQuietAreSet :
    Ready .front running ∧ (299 : BitVec 16).toNat < 300 ∧ 2500 < (2501 : BitVec 16).toNat ∧
      300 ≤ (300 : BitVec 16).toNat ∧ (2500 : BitVec 16).toNat ≤ 2500 ∧ running.pmc.mode = .run ∧
      running.nvs.calibration.warningEnable.getLsbD 3 = true ∧ running.wrc.levels.overspeed = false ∧
      ({ running with wrc.levels.overspeed := true } : State).wrc.levels.overspeed = true ∧ Ready .rear running ∧
      1 < (2 : Byte).toNat ∧ (0 : Byte).toNat = 0 ∧ (1 : Byte).toNat = 1 ∧ 5 ≤ kindNumber .keyLeft ∧
      (warned [entryOf .keyLeft] running).wrc.entry .keyLeft = some (entryOf .keyLeft) ∧ kindNumber .doorMoving ≤ 4 :=
  ⟨test_running_is_ready.1, by decide, by decide, by decide, by decide, rfl, by decide, rfl, rfl,
    test_running_is_ready.2.1, by decide, by decide, by decide, by decide, by decide, by decide⟩

theorem test_witness_TheClockIsSet :
    Ready .service running ∧ Ready .rear running ∧ Link.rear ≠ .service ∧ 86399 < (86400 : BitVec 24).toNat ∧
      (86399 : BitVec 24).toNat ≤ 86399 :=
  ⟨test_running_is_ready.2.2, test_running_is_ready.2.1, by decide, by decide, by decide⟩

/-- A part with an item OVERDUE that a driver may reset. -/
def overdue : State :=
  { running with
    dfa := { running.dfa with odometer := 565400 }
    svm := { running.svm with dayCount := 470, items := { running.svm.items with
      s0 := ⟨true, 1, 15000, 365, 40000, 100, true, .overdue⟩ } } }

theorem test_witness_AServiceReset :
    Ready .front overdue ∧ (0 : Byte).toNat = SlotId.s0.idx ∧ overdue.pmc.mode = .run ∧
      (overdue.svm.items.get .s0).driverReset = true ∧ (overdue.svm.items.get .s0).state.nearDue = true ∧
      overdue.pcu.stationary = true ∧ overdue.nvs.jobCount ≤ 5 ∧ overdue.pmc.supplyLow = false ∧
      (∀ j ∈ overdue.nvs.queue, j.data.covers (.cells (64 + 4 * SlotId.s0.idx)
        (itemWords { overdue.svm.items.s0 with lastKm := 56540, lastDay := 470 })) = false) ∧
      Ready .service (unlocked overdue) ∧ (unlocked overdue).nvs.unlockLatch = true ∧ Ready .service overdue ∧
      overdue.nvs.unlockLatch = false ∧ Ready .front quiet ∧ quiet.pmc.mode ≠ .run :=
  ⟨⟨rfl, rfl, rfl, rfl⟩, rfl, rfl, rfl, rfl, rfl, by decide, rfl, by decide, ⟨rfl, rfl, rfl, rfl⟩, rfl,
    ⟨rfl, rfl, rfl, rfl⟩, rfl, ⟨rfl, rfl, rfl, rfl⟩, by decide⟩

/-- An item with every field at its limit, last serviced now; one with its label out of range; and one last
serviced a kilometre ahead. -/
theorem test_witness_AServiceWrite :
    let s := unlocked overdue
    let w : ItemParams := ⟨1, 15, 65000, 1000, 56540, 470, 1⟩
    Ready .service s ∧ (5 : Byte).toNat = SlotId.s5.idx ∧ s.nvs.unlockLatch = true ∧
      w.labelCode.toNat ≤ 15 ∧ w.intervalKm.toNat ≤ 65000 ∧ w.intervalDays.toNat ≤ 1000 ∧ w.enabled.toNat ≤ 1 ∧
      w.driverReset.toNat ≤ 1 ∧ w.lastKm.toNat ≤ s.dfa.odometer / 10 ∧ w.lastDay.toNat ≤ s.svm.dayCount ∧
      s.nvs.jobCount ≤ 5 ∧ s.pmc.supplyLow = false ∧ s.nvs.queue = [] ∧
      15 < ({ w with labelCode := 16 } : ItemParams).labelCode.toNat ∧
      s.dfa.odometer / 10 < ({ w with lastKm := 56541 } : ItemParams).lastKm.toNat :=
  ⟨⟨rfl, rfl, rfl, rfl⟩, by decide +kernel⟩

theorem test_witness_ACheckStarts :
    Ready .service quiet ∧ quiet.pmc.mode ≠ .run ∧ Ready .front running ∧ Link.front ≠ .rear ∧
      running.pmc.mode = .run ∧ running.chk.state ≠ .running ∧
      (let s := { running with chk.state := .running };
        Ready .front s ∧ s.pmc.mode = .run ∧ s.chk.state = .running) :=
  ⟨⟨rfl, rfl, rfl, rfl⟩, by decide, test_running_is_ready.1, by decide, rfl, by decide, ⟨rfl, rfl, rfl, rfl⟩,
    rfl, rfl⟩

/-- The last index of CAL_A, and a window on it. -/
theorem test_witness_TheStoreWindow :
    Ready .service running ∧ regionOf (5 : Byte).toNat = some .calA ∧ windowModeOf (1 : Byte).toNat = some .stepBoth ∧
      (159 : Byte).toNat < Region.size .calA ∧ ¬(160 : Byte).toNat < Region.size .calA ∧
      running.nvs.window = none ∧
      ({ running with nvs.window := some ⟨.calA, 159, .stepBoth, true⟩ } : State).nvs.window =
        some ⟨.calA, 159, .stepBoth, true⟩ :=
  ⟨test_running_is_ready.2.2, rfl, rfl, by decide, by decide, rfl, rfl⟩

/-- A part with both banks valid and a window on a bank. -/
def windowed (r : Region) (enabled : Bool) : State :=
  { banked with nvs := { banked.nvs with window := some ⟨r, 159, .stepWrite, enabled⟩ } }

/-- No selection, no permission, every region, the last and the first index, a busy store, and every refusal of
BANK_SWITCH. -/
theorem test_witness_WritesGoThroughTheQueue :
    Ready .service banked ∧ banked.nvs.window = none ∧
    (let s := windowed .calB false;
      s.nvs.window = some ⟨.calB, 159, .stepWrite, false⟩) ∧
    (∀ r, Ready .service (windowed r true) ∧ (windowed r true).nvs.window = some ⟨r, 159, .stepWrite, true⟩) ∧
    ((windowed .calA true).nvs.activeBank = some .a ∧ (windowed .calB true).nvs.activeBank ≠ some .b) ∧
    (let s := { banked with nvs := { banked.nvs with
        window := some ⟨.identity, 15, .stepBoth, true⟩, cells := [(430, 5)] } };
      s.nvs.readCell (416 + 15) = 0xFFFF ∧ s.nvs.readCell (416 + 14) ≠ 0xFFFF) ∧
    (let s := windowed .calB true;
      s.nvs.switchInFlight = false ∧ s.nvs.jobCount ≤ 5 ∧ s.pmc.supplyLow = false ∧ s.nvs.queue = [] ∧
      ({ s with nvs.switchInFlight := true } : State).nvs.switchInFlight = true ∧
      ({ s with pmc.supplyLow := true } : State).pmc.supplyLow = true) ∧
    (1 : Byte).toNat = 1 ∧ banked.nvs.unlockLatch = false ∧
    (let s := unlocked banked;
      s.nvs.unlockLatch = true ∧ s.nvs.activeBank = some .a ∧ s.nvs.activeBank ≠ some .b ∧
      s.nvs.switchInFlight = false ∧ s.nvs.inOrder.any WriteJob.holdsBank = false ∧ s.nvs.jobCount ≤ 5 ∧
      s.pmc.supplyLow = false ∧ bankValid s.nvs.cells .b = true ∧ s.nvs.queue = []) ∧
    bankValid running.nvs.cells .b = false ∧
    (WriteJob.holdsBank ⟨.cells 415 [1], .normal, .service, none⟩ = true) :=
  ⟨⟨rfl, rfl, rfl, rfl⟩, rfl, rfl, fun _ => ⟨⟨rfl, rfl, rfl, rfl⟩, rfl⟩, by decide, by decide +kernel, by decide,
    rfl, rfl, by decide +kernel, by decide +kernel, rfl⟩

/-- The least and the greatest value that is taken, the lock, the latch, a moving car, one below, one above, and a busy
store. -/
theorem test_witness_TheOdometerIsSetOnce :
    let s := unlocked (atUnit 1000 0)
    let u : WriteJob := ⟨.cells 96 [1], .urgent, .service, none⟩
    Ready .service s ∧ ({ s with nvs.odometerLock := true } : State).nvs.odometerLock = true ∧
      (atUnit 1000 0).nvs.unlockLatch = false ∧
      s.nvs.unlockLatch = true ∧ s.nvs.odometerLock = false ∧
      ({ s with pcu.stationary := false } : State).pcu.stationary = false ∧ s.pcu.stationary = true ∧
      (999 : BitVec 24).toNat < s.dfa.odometer ∧ 9999999 < (10000000 : BitVec 24).toNat ∧
      s.dfa.odometer ≤ (1000 : BitVec 24).toNat ∧
      (9999999 : BitVec 24).toNat ≤ 9999999 ∧ s.nvs.jobCount ≤ 4 ∧ s.pmc.supplyLow = false ∧ s.nvs.queue = [] ∧
      4 < ({ s.nvs with queue := List.replicate 5 u } : Nvs).jobCount :=
  ⟨⟨rfl, rfl, rfl, rfl⟩, by decide⟩

theorem test_witness_ARestartKeepsTheRecords :
    Ready .service running ∧
      (let s := { running with lnk.restartArmed := true };
        s.powered = true ∧ s.lnk.restartArmed = true ∧ s.nvs.inFlight = none ∧
        ∀ j ∈ s.nvs.queue, j.progress = none) :=
  ⟨test_running_is_ready.2.2, rfl, rfl, rfl, fun _ h => absurd h List.not_mem_nil⟩

/-- The line asserted already; asserted in STARTUP, and in RUN with a job begun, an URGENT one and a NORMAL one. -/
theorem test_witness_SupplyLowEndsRun :
    let begun : WriteJob := ⟨.cells 64 [1, 2, 3, 4], .normal, .front, some 66⟩
    let bank : WriteJob := ⟨.cells 88 [0x00A5, 0xFF5A], .urgent, .service, none⟩
    let item : WriteJob := ⟨.cells 68 [1, 2, 3, 4], .normal, .front, none⟩
    let s := writing ⟨.cells 90 [0x00C3], .urgent, .service, some 90⟩ [begun, bank, item] (atUnit 1234603 0)
    let snapshot : JobData := .cells 34 (snapshotWords s.dfa.estimate s.trc.trips)
    running.powered = true ∧ ({ running with pmc.supplyLow := true } : State).pmc.supplyLow = true ∧
      quiet.pmc.supplyLow = false ∧ quiet.pmc.mode ≠ .run ∧
      s.powered = true ∧ s.pmc.supplyLow = false ∧ s.pmc.mode = .run ∧
      (s.nvs.queue.filter (fun j => decide (j.jobClass = .urgent) || j.progress.isSome)).length +
        s.nvs.inFlight.toList.length ≤ 6 ∧
      (∀ j ∈ s.nvs.queue, j.data.covers snapshot = false ∧ snapshot.covers j.data = false) ∧
      s.dfa.odometer % 10 ≠ 0 ∧ begun.removable = false ∧ bank.removable = false ∧ item.removable = true := by
  decide +kernel

theorem test_witness_SupplyReturnBeginsRun :
    let low (m : Mode) (x : SwitchLevel) : State :=
      { ignition m ⟨x, 0, true⟩ with pmc := { running.pmc with mode := m, supplyLow := true } }
    running.pmc.supplyLow = false ∧
      ((low .startup .active).pmc.supplyLow = true ∧ (low .startup .active).pmc.mode = .startup) ∧
      (low .standby .inactive).sws.inputs.ignOn.accepted ≠ .active ∧
      ((low .shutdown .active).pmc.mode = .shutdown ∧ (low .shutdown .active).sws.inputs.ignOn.accepted = .active ∧
        (low .shutdown .active).pmc.supplyLow = true ∧ (low .shutdown .active).powered = true) := by
  decide

/-- The timer with and without a written snapshot, a refresh after which the gauges are at rest, one pointer coming from 8
to 0 in it, one that leaves a pointer at 1, one of a gauge that tracks, and a snapshot's last cell with the gauges at
rest. -/
theorem test_witness_ShutdownEndsInStandby :
    let at_ (rest written : Bool) : State := { running with pmc := { running.pmc with
      mode := .shutdown, shutdownTimer := some 1, gaugesAtRest := rest, snapshotWritten := written } }
    let j : WriteJob := ⟨.cells 34 (List.replicate 30 0), .urgent, .internal, some 63⟩
    let s := writing j [] (at_ true false)
    (at_ false false).powered = true ∧ (at_ false false).pmc.mode = .shutdown ∧
      (at_ false false).pmc.shutdownTimer.isSome = true ∧ (at_ false false).pmc.snapshotWritten = false ∧
      (at_ false true).pmc.snapshotWritten = true ∧ s.pmc.gaugesAtRest = true ∧ s.nvs.draining = false ∧
      s.nvs.inFlight = some j ∧ (List.replicate 30 (0 : StoreWord)).length = 30 ∧ j.progress = some 63 ∧
      s.nvs.queue = [] ∧
      (let p := speedo ⟨0, 8, .parking, .none, ⟨false, false⟩, ⟨0, 0⟩⟩ (at_ false true);
        p.gdr.refreshTimer.isSome = true ∧ p.gdr.restDelivered = false ∧
        ∀ g, (p.gdr.gauges.get g).hold ≠ .requested ∧ ((p.gdr.gauges.get g).phase = .parked ∨
          (p.gdr.gauges.get g).phase = .disabled ∨
          (p.gdr.gauges.get g).phase = .parking ∧ ((p.gdr.gauges.get g).current = 0 ∨
            (p.gdr.gauges.get g).hold = .none ∧
              (p.gdr.gauges.get g).current ≤ max (p.nvs.calibration.gaugeSlew.get g) 8))) ∧
      max (running.nvs.calibration.gaugeSlew.get .speedo) 8 < 9 ∧
      (speedo ⟨0, 0, .tracking, .none, ⟨false, false⟩, ⟨0, 0⟩⟩ (at_ false true)).gdr.gauges.speedo.phase = .tracking :=
  ⟨rfl, rfl, rfl, rfl, rfl, rfl, rfl, rfl, rfl, rfl, rfl,
    ⟨rfl, rfl, fun g => by cases g <;> decide +kernel⟩, by decide +kernel, rfl⟩

end Sys2Proof.Tests
end

section
/-! PROOFS. The average speed of a trip record (R60), from the rules of rounding (R1) and of clamping. -/

namespace Sys2Proof.Machine

open Sys2Proof

/-! ### Rounding and clamping -/

/-- R1: the rounded quotient is no more than half a unit above n / d. -/
theorem two_mul_roundDiv_mul_le (n d : Nat) : 2 * roundDiv n d * d ≤ 2 * n + d :=
  calc 2 * roundDiv n d * d
      = roundDiv n d * (2 * d) := by ring
    _ ≤ 2 * n + d := Nat.div_mul_le_self _ _

/-- R1: n / d is less than half a unit above the rounded quotient, as halves go upward. -/
theorem lt_two_mul_roundDiv_add_one_mul (n : Nat) {d : Nat} (hd : 0 < d) :
    2 * n + d < 2 * (roundDiv n d + 1) * d :=
  calc 2 * n + d
      < 2 * d * (roundDiv n d + 1) := Nat.lt_mul_div_succ _ (by omega)
    _ = 2 * (roundDiv n d + 1) * d := by ring

theorem clampAt_le_limit (limit n : Nat) : clampAt limit n ≤ limit := Nat.min_le_right n limit

theorem clampAt_le_self (limit n : Nat) : clampAt limit n ≤ n := Nat.min_le_left n limit

/-- A value below the limit was not clamped. -/
theorem clampAt_eq_self_of_lt {limit n : Nat} (h : clampAt limit n < limit) : clampAt limit n = n := by
  unfold clampAt at *
  omega

/-! ### The average speed -/

theorem averageSpeed_eq_none {c : TripCounts} (h : c.runTime < 60) : averageSpeed c = none := if_pos h

theorem averageSpeed_eq_some {c : TripCounts} (h : 60 ≤ c.runTime) :
    averageSpeed c = some (clampAt 2999 (roundDiv (c.distance * 360) c.runTime)) :=
  if_neg (Nat.not_lt.mpr h)

/-- Settles O43: the clamped quotient keeps the rounding's upper bound, and below the limit it is the rounded quotient
itself. -/
theorem theAverageSpeedIsRounded : Obligations.TheAverageSpeedIsRounded := by
  unfold Obligations.TheAverageSpeedIsRounded
  intro c
  refine ⟨averageSpeed_eq_none, fun hrun => ⟨_, averageSpeed_eq_some hrun, clampAt_le_limit _ _, ?_, ?_⟩⟩
  · intro hbelow
    rw [clampAt_eq_self_of_lt hbelow]
    have hupper := two_mul_roundDiv_mul_le (c.distance * 360) c.runTime
    have hlower := lt_two_mul_roundDiv_add_one_mul (c.distance * 360) (show 0 < c.runTime by omega)
    constructor <;> omega
  · intro hlimit
    have hquotient : 2999 ≤ roundDiv (c.distance * 360) c.runTime := hlimit ▸ clampAt_le_self _ _
    calc 2 * 2999 * c.runTime
        ≤ 2 * roundDiv (c.distance * 360) c.runTime * c.runTime := by gcongr
      _ ≤ 2 * (c.distance * 360) + c.runTime := two_mul_roundDiv_mul_le _ _
      _ = 720 * c.distance + c.runTime := by ring

end Sys2Proof.Machine
end

section
/-! PROOFS. The re-sound expiry (R107): what it makes of its entry, and whether the entry then leaves the list
(R103). -/

namespace Sys2Proof.Machine

open Sys2Proof

/-! ### The list under the shared operations -/

@[simp] theorem settleWarnings_entry (k : WarningKind) (p : Panel) :
    (settleWarnings p).wrc.entry k = p.wrc.entry k := rfl

@[simp] theorem settleWarnings_lnk (p : Panel) : (settleWarnings p).lnk = p.lnk := rfl

@[simp] theorem removeEntry_entry_self (k : WarningKind) (p : Panel) : (removeEntry k p).wrc.entry k = none :=
  (Wrc.entry_dropEntry p.wrc k k).trans (if_pos rfl)

/-- R103: an entry's removal is decided by its four conditions alone. -/
theorem judgeRemoval_eq {k : WarningKind} {p : Panel} {e : WarningEntry} (he : p.wrc.entry k = some e) :
    judgeRemoval k p = if e.finished then removeEntry k p else p := by
  simp only [judgeRemoval, he]

theorem judgeRemoval_entry_self {k : WarningKind} {p : Panel} {e : WarningEntry} (he : p.wrc.entry k = some e) :
    (judgeRemoval k p).wrc.entry k = if e.finished then none else some e := by
  rw [judgeRemoval_eq he]
  split
  · exact removeEntry_entry_self k p
  · exact he

theorem WarningEntry.not_finished_of_pending_front {e : WarningEntry} (h : e.pending.front = true) :
    e.finished = false := by
  simp [WarningEntry.finished, h]

/-! ### The entry after its re-sound timer's expiry -/

@[simp] theorem WarningEntry.resoundNow_kind (e : WarningEntry) : e.resoundNow.kind = e.kind := by
  unfold WarningEntry.resoundNow
  split <;> rfl

theorem WarningEntry.resoundNow_of_called {e : WarningEntry}
    (h : e.conditionPresent = true ∨ (isLatching e.kind = true ∧ e.acked.front = false)) :
    e.resoundNow =
      { e with pending := { e.pending with front := true }, acked := { e.acked with front := false }, resound := none } :=
  if_pos (by simpa using h)

theorem WarningEntry.resoundNow_of_not_called {e : WarningEntry} (hc : e.conditionPresent = false)
    (h : isLatching e.kind = false ∨ e.acked.front = true) : e.resoundNow = { e with resound := none } :=
  if_neg (by rcases h with h | h <;> simp [hc, h])

theorem Wrc.entry_resoundNow {w : Wrc} {k : WarningKind} {e : WarningEntry} (he : w.entry k = some e) :
    (w.modifyEntry k WarningEntry.resoundNow).entry k = some e.resoundNow := by
  rw [Wrc.entry_modifyEntry w k k _ WarningEntry.resoundNow_kind, if_pos rfl, he, Option.map_some]

/-! ### The command -/

theorem resoundExpiry_eq {k : WarningKind} {p : Panel} {e : WarningEntry} (he : p.wrc.entry k = some e)
    (hr : e.resound.isSome = true) :
    resoundExpiry k p =
      settleWarnings (judgeRemoval k (p.withWrc (p.wrc.modifyEntry k WarningEntry.resoundNow))) := by
  simp only [resoundExpiry, he, hr, if_true]

theorem exec_resoundExpiry (k : WarningKind) (s : State) : exec (.resoundExpiry k) s = s.act (resoundExpiry k) := rfl

/-- Settles O28: a sounder F that is pending again keeps the entry from being finished, so no removal and no notice
follow; an entry that is not called for loses its timer only, and is then judged for removal. -/
theorem aResoundExpirySoundsAgain : Obligations.AResoundExpirySoundsAgain := by
  unfold Obligations.AResoundExpirySoundsAgain
  intro s k e hpowered he hr
  have hkind : e.kind = k := Wrc.kind_of_entry he
  have hentry := Wrc.entry_resoundNow he
  refine ⟨settleWarnings (judgeRemoval k (s.toPanel.withWrc (s.wrc.modifyEntry k WarningEntry.resoundNow))),
    ?_, ?_, ?_, ?_⟩
  · rw [exec_resoundExpiry, State.act_powered _ hpowered, resoundExpiry_eq he hr]
  · exact ((WarningsOnly.withWrc _ _).trans (judgeRemoval_only k _)).trans (settleWarnings_only _)
  · intro hcalled
    rw [WarningEntry.resoundNow_of_called (hkind ▸ hcalled)] at hentry
    rw [judgeRemoval_eq hentry, WarningEntry.not_finished_of_pending_front rfl, if_neg Bool.false_ne_true]
    exact ⟨(settleWarnings_entry k _).trans hentry, settleWarnings_lnk _⟩
  · intro hc hsilent
    rw [WarningEntry.resoundNow_of_not_called hc (hkind ▸ hsilent)] at hentry
    exact (settleWarnings_entry k _).trans (judgeRemoval_entry_self hentry)

end Sys2Proof.Machine
end

section
/-! PROOFS. CLOCK_SET (R134): the permission to send it (R187), the bound on its value, and its effect. -/

namespace Sys2Proof.Machine

open Sys2Proof

/-! ### A request's permission and its checks -/

/-- R187: a request that the table of permissions refuses changes nothing. -/
theorem answerRequest_not_permitted {l : Link} {r : Request} (p : Panel) (h : permitted l r = false) :
    answerRequest l r p = refuse .notPermitted p := by
  simp [answerRequest, h]

theorem answerRequest_permitted {l : Link} {r : Request} (p : Panel) (h : permitted l r = true) :
    answerRequest l r p = carryOut l r p :=
  if_pos h

theorem judged_nil (effect : Panel → Answer) (p : Panel) : judged [] effect p = effect p := rfl

theorem judged_cons_of_fails {c : Bool} (st : Status) (rest : List (Bool × Status)) (effect : Panel → Answer)
    (p : Panel) (h : c = false) : judged ((c, st) :: rest) effect p = refuse st p := by
  simp [judged, firstRefusal, h]

theorem judged_cons_of_holds {c : Bool} (st : Status) (rest : List (Bool × Status)) (effect : Panel → Answer)
    (p : Panel) (h : c = true) : judged ((c, st) :: rest) effect p = judged rest effect p := by
  simp [judged, firstRefusal, h]

/-! ### The request -/

theorem permitted_clockSet_iff (l : Link) (time : BitVec 24) :
    permitted l (.clockSet time) = true ↔ l ≠ .service :=
  bne_iff_ne

theorem takeClockSet_of_late (l : Link) {time : BitVec 24} (p : Panel) (h : 86399 < time.toNat) :
    takeClockSet l time p = refuse .badValue p :=
  judged_cons_of_fails _ _ _ _ (decide_eq_false (Nat.not_le.mpr h))

theorem takeClockSet_of_time_of_day (l : Link) {time : BitVec 24} (p : Panel) (h : time.toNat ≤ 86399) :
    takeClockSet l time p =
      accept (notifyOthers .clock l (p.withSvm { p.svm with timeOfDay := time.toNat, clockSet := true })) := by
  rw [takeClockSet, judged_cons_of_holds _ _ _ _ (decide_eq_true h), judged_nil]

/-! ### The command -/

theorem exec_clockSet (l : Link) (time : BitVec 24) (s : State) :
    exec (.clockSet l time) s = submit l (.clockSet time) s := rfl

/-- R178: on a ready link, CLOCK_SET replies with the answer to its request. -/
theorem exec_clockSet_of_answer {l : Link} {time : BitVec 24} {s : State} {a : Answer} (hready : Ready l s)
    (ha : answerRequest l (.clockSet time) s.toPanel = a) :
    exec (.clockSet l time) s = .next (s.answered l a.status a.data a.panel) := by
  rw [exec_clockSet, submit_ready _ hready, ha]

/-- Settles O50: the table of permissions tells SERVICE from the other links, and for these the one check on the value
tells the refusal from the setting. -/
theorem theClockIsSet : Obligations.TheClockIsSet := by
  unfold Obligations.TheClockIsSet
  intro s l time hready
  refine ⟨fun hservice => ?_, fun hother hlate => ?_, fun hother htime => ?_⟩
  · have hrefused : permitted l (.clockSet time) = false := by
      rw [Bool.eq_false_iff, Ne, permitted_clockSet_iff, not_not]
      exact hservice
    exact exec_clockSet_of_answer hready (answerRequest_not_permitted _ hrefused)
  · have hpermitted := (permitted_clockSet_iff l time).mpr hother
    exact exec_clockSet_of_answer hready
      ((answerRequest_permitted _ hpermitted).trans (takeClockSet_of_late l _ hlate))
  · have hpermitted := (permitted_clockSet_iff l time).mpr hother
    exact exec_clockSet_of_answer hready
      ((answerRequest_permitted _ hpermitted).trans (takeClockSet_of_time_of_day l _ htime))

end Sys2Proof.Machine
end

section
/-! PROOFS. The entries of the modes as chains of operations on one block each. -/

namespace Sys2Proof.Machine

open Sys2Proof

/-! ### Operations on one block -/

/-- A change of the Switch Sampler alone. -/
def Panel.onSws (f : Sws → Sws) (p : Panel) : Panel := p.withSws (f p.sws)
/-- A change of the Converter alone. -/
def Panel.onAdc (f : Adc → Adc) (p : Panel) : Panel := p.withAdc (f p.adc)
/-- A change of the Distance and Fuel Accumulator alone. -/
def Panel.onDfa (f : Dfa → Dfa) (p : Panel) : Panel := p.withDfa (f p.dfa)
/-- A change of the Trip Computer alone. -/
def Panel.onTrc (f : Trc → Trc) (p : Panel) : Panel := p.withTrc (f p.trc)
/-- A change of the Warning Controller alone. -/
def Panel.onWrc (f : Wrc → Wrc) (p : Panel) : Panel := p.withWrc (f p.wrc)
/-- A change of the store alone. -/
def Panel.onNvs (f : Nvs → Nvs) (p : Panel) : Panel := p.withNvs (f p.nvs)
/-- A change of the Power Mode Controller alone. -/
def Panel.onPmc (f : Pmc → Pmc) (p : Panel) : Panel := p.withPmc (f p.pmc)
/-- A change of each link's port alone. -/
def Panel.onPorts (f : LinkPort → LinkPort) (p : Panel) : Panel := p.withPorts (PerLink.map f p.lnk.ports)

/-- R24, R37: the fuel sample's timer replaced. -/
def Dfa.setSampleTimer (t : Timer) (d : Dfa) : Dfa := { d with fuelSampleTimer := t }

/-! ### The mode entries -/

/-- R194's table of RUN entry, the last row outermost. -/
theorem enterRun_eq (p : Panel) : enterRun p =
    Panel.onPorts LinkPort.restartPresence (startAutomatic (evaluate (judgeWarnings (Panel.onWrc Wrc.enterRun
      (gaugesEnterRun (Panel.onTrc Trc.clearWindow (Panel.onDfa (Dfa.setSampleTimer (some 2000000))
        (Panel.onAdc (Adc.enterRun p.pcu.timebase) (Panel.onSws (Sws.modeChange .run)
          (setMode .run (Panel.onPmc Pmc.enterRun p))))))))))) := rfl

/-- R193's table of SHUTDOWN entry, the last row outermost. -/
theorem enterShutdown_eq (p : Panel) : enterShutdown p =
    Panel.onNvs Nvs.closeLatch (abortCheck (judgeWarnings (Panel.onWrc Wrc.enterShutdown (gaugesEnterShutdown
      (queueTenths (Panel.onDfa (Dfa.setSampleTimer none) (queueSnapshot (Panel.onSws (Sws.modeChange .shutdown)
        (setMode .shutdown (Panel.onPmc Pmc.enterShutdown p)))))))))) := rfl

/-- R195: STANDBY entry, the last operation outermost. -/
theorem enterStandby_eq (p : Panel) : enterStandby p =
    judgeWarnings (gaugesEnterStandby (Panel.onAdc Adc.enterStandby (Panel.onSws (Sws.modeChange .standby)
      (setMode .standby p)))) := rfl

/-! ### The supply -/

/-- R190: the supply's state replaced. -/
def Pmc.setSupplyLow (low : Bool) (c : Pmc) : Pmc := { c with supplyLow := low }

theorem supplyLowAsserted_eq (p : Panel) : supplyLowAsserted p =
    if p.pmc.supplyLow then p
    else if p.pmc.mode = .run then enterShutdown (removeNormal (Panel.onPmc (Pmc.setSupplyLow true) p))
    else removeNormal (Panel.onPmc (Pmc.setSupplyLow true) p) := by
  have hmode : (removeNormal (Panel.onPmc (Pmc.setSupplyLow true) p)).pmc.mode = p.pmc.mode := by
    rw [(removeNormal_only _).1]
    rfl
  unfold supplyLowAsserted
  rw [← hmode]
  rfl

theorem supplyLowReleased_eq (p : Panel) : supplyLowReleased p =
    if p.pmc.supplyLow then
      if (p.pmc.mode = .shutdown ∨ p.pmc.mode = .standby) ∧ inputActive p .ignOn then
        enterRun (Panel.onPmc (Pmc.setSupplyLow false) p)
      else Panel.onPmc (Pmc.setSupplyLow false) p
    else p := rfl

/-! ### The converter -/

/-- R17, R18: the Converter once a conversion's reading is in, with the next conversion begun. -/
def Adc.taken (cal : Calibration) (now : Micros) (c : Channel) (reading : Byte) (a : Adc) : Adc :=
  Adc.process cal c reading { a with
    readings := a.readings.set c (some reading)
    analog := a.analog.set c reading
    conversion := some (beginConversion (nextChannel c) now) }

theorem conversionComplete_eq {p : Panel} {conv : Conversion} (reading : Byte) (h : p.adc.conversion = some conv) :
    conversionComplete reading p =
      if conv.channel = .sense then
        senseReading reading conv.startedAt (judgeFaultIndication
          (Panel.onAdc (Adc.taken p.nvs.calibration p.pcu.timebase conv.channel reading) p))
      else judgeFaultIndication
        (Panel.onAdc (Adc.taken p.nvs.calibration p.pcu.timebase conv.channel reading) p) := by
  obtain ⟨c, started, timer⟩ := conv
  simp only [conversionComplete, h]
  cases c <;> rfl

/-! ### Recovery -/

/-- R156: the values that recovery at power-on reads from the cells. -/
def recoveredValues (p : Panel) : Panel :=
  let good := formatMatches p.nvs.cells
  { p with
    nvs := p.nvs.recover
    dfa := { p.dfa with
      odometer := ((recoverRing good p.nvs.cells).map Prod.fst).getD 0
      odoLost := (recoverRing good p.nvs.cells).isNone
      estimate := (recoverSnapshot good p.nvs.cells).1 }
    svm := { p.svm with dayCount := (recoverDay good p.nvs.cells).getD (fallbackDay good p.nvs.cells) }
    trc := { p.trc with trips := (recoverSnapshot good p.nvs.cells).2 } }

theorem recoverPowerOn_eq (p : Panel) : recoverPowerOn p =
    finishRecovery (recoverDay (formatMatches p.nvs.cells) p.nvs.cells).isNone (recoveredValues p) := rfl

/-- R156, R158: the calibration taken and the service items recovered. -/
def itemsRecovered (p : Panel) : Panel :=
  { p with
    dfa := p.dfa.clampEstimate p.nvs.calibration.tankCapacity
    gdr := { p.gdr with calibration := p.nvs.calibration.forGauges }
    svm := { p.svm with items := PerSlot.of (fun i => (recoveredItem p i).1) } }

/-- R156: recovery is over. -/
def Nvs.recovered (n : Nvs) : Nvs := { n with recoveryDone := true }

/-- R156, R157: what the end of a recovery delivers, before the ports take their waiting messages. -/
def recoveryDelivered (dayLost : Bool) (p : Panel) : Panel :=
  rangeInputsChanged (Panel.onNvs Nvs.recovered (queueRecoveryJobs dayLost (formFaultIndication
    (evaluateFirst (itemsRecovered p)))))

theorem finishRecovery_eq (dayLost : Bool) (p : Panel) : finishRecovery dayLost p =
    leaveStartup (takeWaiting .service (takeWaiting .rear (takeWaiting .front (recoveryDelivered dayLost p)))) := rfl

/-- R158: the values that recovery at a restart reads from the cells. -/
def restartedValues (p : Panel) : Panel :=
  let n := { p.nvs with queue := [], switchInFlight := false, draining := false }.recover
  { p with nvs := n, dfa := p.dfa.reload p.nvs.calibration n.calibration }

theorem recoverRestart_eq (p : Panel) : recoverRestart p = finishRecovery false (restartedValues p) := rfl

/-! ### A bank switch -/

/-- R170, R171: the store and the Distance and Fuel Accumulator once a bank is active. -/
def bankTaken (bank : Bank) (p : Panel) : Panel :=
  let cal := calibrationOf p.nvs.cells (some bank)
  { p with
    nvs := { p.nvs with activeBank := some bank, calibration := cal, calFault := false, switchInFlight := false }
    dfa := p.dfa.takeCalibration cal }

theorem completeBankSwitch_eq (bank : Bank) (p : Panel) : completeBankSwitch bank p =
    notifyLink .store .service (judgeFaultIndication (evaluate (rangeInputsChanged
      (takeCalibrationWarnings (bankTaken bank p))))) := rfl

/-! ### The odometer's setting -/

/-- R168: the odometer lock set. -/
def Nvs.lockOdometer (n : Nvs) : Nvs := { n with odometerLock := true }

theorem setOdometer_eq (v : Nat) (p : Panel) : setOdometer v p =
    queueJob lockJob (queueJob ⟨.odometer v, .urgent, .service, none⟩ (Panel.onNvs Nvs.lockOdometer
      (judgeFaultIndication (takeOdometer v (consumeLatch p))))) := rfl

/-! ### Commands -/

/-- What a command does to a part that is kept alive. -/
def commandEffect : Instr → Panel → Panel
  | .pulseEdge ch => pulseEdge ch
  | .injectorOpen => injectorOpen
  | .injectorClose => injectorClose
  | .longPulseExpiry => longPulseExpiry
  | .gateExpiry => gateExpiry
  | .quietExpiry ch => quietExpiry ch
  | .engineSecondsExpiry => engineSecond
  | .stationaryExpiry => stationaryExpiry
  | .stationarySecondsExpiry => stationarySecond
  | .switchSample pins => switchSample pins
  | .conversionComplete reading => conversionComplete reading
  | .persistenceExpiry sender => persistenceExpiry sender
  | .driverOverload item => driverOverload item
  | .fuelSampleExpiry => fuelSampleExpiry
  | .refreshExpiry => refreshExpiry
  | .resoundExpiry kind => resoundExpiry kind
  | .strikeEnd player => strikeEnd player
  | .gapEnd player => gapEnd player
  | .restEnd player => restEnd player
  | .linkGraceExpiry => linkGraceExpiry
  | .oneSecondEvent => oneSecondEvent
  | .cellProgrammed => cellProgrammed
  | .powerOnReset strapUnits strapRear => powerOnReset strapUnits strapRear
  | .restartBegin strapUnits strapRear => restartBegin strapUnits strapRear
  | .supplyLowAsserted => supplyLowAsserted
  | .supplyLowReleased => supplyLowReleased
  | .bulbCheckExpiry => bulbCheckExpiry
  | .beltTimerExpiry => beltTimerExpiry
  | .shutdownTimerExpiry => shutdownTimerExpiry
  | .characterReceived link samples => characterReceived link samples
  | .gapTimerExpiry link => gapTimerExpiry link
  | .replyEnd link => replyEnd link
  | .presenceExpiry link => presenceExpiry link
  | .presence link => deliverMessage link (.good .presence)
  | .noticesRead link => deliverMessage link (.good .noticesRead)
  | .noticeMaskSet link mask => deliverMessage link (.good (.noticeMaskSet mask))
  | .inputsRead link => deliverMessage link (.good .inputsRead)
  | .errorsRead link => deliverMessage link (.good .errorsRead)
  | .identityRead link => deliverMessage link (.good .identityRead)
  | .valuesRead link => deliverMessage link (.good .valuesRead)
  | .odometerRead link => deliverMessage link (.good .odometerRead)
  | .tripRead link index => deliverMessage link (.good (.tripRead index))
  | .warningsRead link => deliverMessage link (.good .warningsRead)
  | .clockRead link => deliverMessage link (.good .clockRead)
  | .serviceRead link => deliverMessage link (.good .serviceRead)
  | .checkRead link => deliverMessage link (.good .checkRead)
  | .tripReset link index => deliverMessage link (.good (.tripReset index))
  | .tripHold link index => deliverMessage link (.good (.tripHold index))
  | .tripResume link index => deliverMessage link (.good (.tripResume index))
  | .tripSetDestination link km => deliverMessage link (.good (.tripSetDestination km))
  | .warningAck link kind => deliverMessage link (.good (.warningAck kind))
  | .call link => deliverMessage link (.good .call)
  | .overspeedSet link setpoint => deliverMessage link (.good (.overspeedSet setpoint))
  | .rearQuietSet link value => deliverMessage link (.good (.rearQuietSet value))
  | .clockSet link time => deliverMessage link (.good (.clockSet time))
  | .serviceReset link slot => deliverMessage link (.good (.serviceReset slot))
  | .checkStart link => deliverMessage link (.good .checkStart)
  | .serviceWrite link slot item => deliverMessage link (.good (.serviceWrite slot item))
  | .storeOpen link => deliverMessage link (.good .storeOpen)
  | .storeStatus link => deliverMessage link (.good .storeStatus)
  | .windowSelect link region index mode => deliverMessage link (.good (.windowSelect region index mode))
  | .windowRead link => deliverMessage link (.good .windowRead)
  | .windowWrite link value => deliverMessage link (.good (.windowWrite value))
  | .bankSwitch link bank => deliverMessage link (.good (.bankSwitch bank))
  | .odometerSet link value => deliverMessage link (.good (.odometerSet value))
  | .restart link => deliverMessage link (.good .restart)
  | .keepAliveLost => keepAliveLost
  | .falseStart link => falseStart link
  | .rxReturnsToIdleLevel link => rxIdle link

/-- Every command but a power-on reset is its effect on a part that is kept alive. -/
theorem exec_eq_act {c : Instr} (h : ∀ units rear, c ≠ .powerOnReset units rear) (s : State) :
    exec c s = s.act (commandEffect c) := by
  cases c
  case powerOnReset units rear => exact absurd rfl (h units rear)
  all_goals rfl

theorem exec_powerOnReset (units rear : Bool) (s : State) :
    exec (.powerOnReset units rear) s = .next { s with toPanel := powerOnReset units rear s.toPanel } := rfl

theorem State.act_eq (f : Panel → Panel) (s : State) :
    s.act f = .next { s with toPanel := if s.powered then f s.toPanel else s.toPanel } := by
  cases h : s.powered <;> simp [h]

/-- Every command answers with its effect, or with the part as it was. -/
theorem exec_eq_next (c : Instr) (s : State) :
    exec c s = .next { s with toPanel := commandEffect c s.toPanel } ∨ exec c s = .next s := by
  by_cases h : ∃ units rear, c = .powerOnReset units rear
  · obtain ⟨units, rear, rfl⟩ := h
    exact .inl (exec_powerOnReset units rear s)
  · rw [exec_eq_act (fun units rear hc => h ⟨units, rear, hc⟩)]
    cases hp : s.powered
    · exact .inr (State.act_unpowered _ hp)
    · exact .inl (State.act_powered _ hp)

/-- A request's command hands the request to the taking rule of its link. -/
theorem exec_requestCommand (l : Link) (r : Request) (s : State) : exec (requestCommand l r) s = submit l r s := by
  cases r <;> rfl

/-- R178: on a ready link, a request's command replies with the answer to the request. -/
theorem exec_request_of_answer {l : Link} {r : Request} {s : State} {a : Answer} (hready : Ready l s)
    (ha : answerRequest l r s.toPanel = a) :
    exec (requestCommand l r) s = .next (s.answered l a.status a.data a.panel) := by
  rw [exec_requestCommand, submit_ready _ hready, ha]

theorem step_tick {s : State} (h : s.pending = []) : step s = tick s := by
  simp only [step, h]

theorem step_exec {s : State} {c : Instr} {rest : List Instr} (h : s.pending = c :: rest) :
    step s = exec c { s with pending := rest } := by
  simp only [step, h]

end Sys2Proof.Machine
end

section
/-! PROOFS. What the invariants of the step watch, block by block: the store, the check record, the warning list, the
trip records and the mode, and the operations of each block that keep its own invariant. -/

namespace Sys2Proof.Machine

open Sys2Proof

/-! ### The blocks' invariants -/

/-- The store's part of `StoreSound`. -/
def Nvs.Sound (n : Nvs) : Prop :=
  Memory.wf n.cells = true ∧ (∀ j ∈ n.queue, j.InStore) ∧ (∀ j, n.inFlight = some j → j.InStore) ∧
    ∀ w, n.window = some w → w.index < w.region.size

/-- The Check Sequencer's part of `FaultsCounted`. -/
def Chk.Counted (c : Chk) : Prop := c.faultCount = c.countFaults

/-- The order of `EntriesInOrder`, of a list of entries. -/
def InOrder (entries : List WarningEntry) : Prop :=
  entries.Pairwise (fun a b => kindNumber a.kind < kindNumber b.kind)

/-- The Trip Computer's part of `TripsInRange`. -/
def Trc.InRange (t : Trc) : Prop :=
  (∀ i, (t.trips.get i).counts.InRange) ∧ t.trips.tank.held = false ∧
  (t.arrivalArmed = true → t.destinationKm.isSome = true) ∧ t.ring.length = 8

/-- The Power Mode Controller's part of `NoRunOnLowSupply`. -/
def Pmc.OutOfRun (c : Pmc) : Prop := c.mode = .run → c.supplyLow = false

/-! ### The warning list -/

theorem InOrder.filter {es : List WarningEntry} (h : InOrder es) (f : WarningEntry → Bool) : InOrder (es.filter f) :=
  List.Pairwise.filter f h

theorem InOrder.map {es : List WarningEntry} (h : InOrder es) {f : WarningEntry → WarningEntry}
    (hf : ∀ e, (f e).kind = e.kind) : InOrder (es.map f) := by
  refine List.pairwise_map.mpr (List.Pairwise.imp (fun hab => ?_) h)
  rw [hf, hf]
  exact hab

theorem mem_insertEntry {e x : WarningEntry} : ∀ {es : List WarningEntry}, x ∈ insertEntry e es → x = e ∨ x ∈ es
  | [], h => by simpa [insertEntry] using h
  | f :: rest, h => by
    rw [insertEntry] at h
    split at h
    · simpa using h
    · split at h
      · rcases List.mem_cons.mp h with h | h
        · exact .inl h
        · exact .inr (List.mem_cons_of_mem f h)
      · rcases List.mem_cons.mp h with rfl | h
        · exact .inr List.mem_cons_self
        · exact (mem_insertEntry h).imp_right (List.mem_cons_of_mem f)

/-- R101: an entry is inserted at its priority, in place of one of its own kind. -/
theorem InOrder.insertEntry (e : WarningEntry) : ∀ {es : List WarningEntry}, InOrder es → InOrder (insertEntry e es)
  | [], _ => List.pairwise_singleton _ e
  | f :: rest, h => by
    obtain ⟨hf, hrest⟩ := List.pairwise_cons.mp h
    rw [Machine.insertEntry]
    split
    case isTrue hlt =>
      refine List.pairwise_cons.mpr ⟨fun x hx => ?_, h⟩
      rcases List.mem_cons.mp hx with rfl | hx
      · exact hlt
      · exact hlt.trans (hf x hx)
    case isFalse hge =>
      split
      case isTrue heq => exact List.pairwise_cons.mpr ⟨fun x hx => heq ▸ hf x hx, hrest⟩
      case isFalse hne =>
        refine List.pairwise_cons.mpr ⟨fun x hx => ?_, InOrder.insertEntry e hrest⟩
        rcases mem_insertEntry hx with rfl | hx
        · omega
        · exact hf x hx

theorem InOrder.modifyEntry {w : Wrc} (h : InOrder w.entries) (k : WarningKind) {f : WarningEntry → WarningEntry}
    (hf : ∀ e, (f e).kind = e.kind) : InOrder (w.modifyEntry k f).entries :=
  h.map fun e => by split <;> simp [hf]

theorem InOrder.dropEntry {w : Wrc} (h : InOrder w.entries) (k : WarningKind) : InOrder (w.dropEntry k).entries :=
  h.filter _

/-! ### The check record -/

theorem Chk.counted_counted (c : Chk) : c.counted.Counted := by
  unfold Chk.Counted Chk.counted
  rfl

/-- A change that leaves the items and the count keeps the count right. -/
theorem Chk.Counted.congr {c d : Chk} (h : c.Counted) (hl : d.lamps = c.lamps) (hc : d.coils = c.coils)
    (hn : d.faultCount = c.faultCount) : d.Counted := by
  have hitem : ∀ i, d.item i = c.item i := fun i => by cases i <;> simp only [Chk.item, hl, hc]
  unfold Chk.Counted Chk.countFaults at *
  simp only [hn, h, hitem]

theorem Chk.reset_counted : Chk.reset.Counted := rfl

theorem Chk.start_counted (source : CheckSource) (c : Chk) : (c.start source).Counted :=
  Chk.reset_counted.congr rfl rfl rfl

/-! ### The trip records -/

theorem TripRecord.add_inRange (du ml seconds : Nat) {r : TripRecord} (h : r.counts.InRange) :
    (r.add du ml seconds).counts.InRange := by
  unfold TripRecord.add
  split
  · exact h
  · exact ⟨clampAt_le_limit _ _, clampAt_le_limit _ _, clampAt_le_limit _ _⟩

theorem TripRecord.add_held (du ml seconds : Nat) (r : TripRecord) : (r.add du ml seconds).held = r.held := by
  unfold TripRecord.add
  split <;> rfl

theorem TripCounts.zero_inRange : (⟨0, 0, 0⟩ : TripCounts).InRange := ⟨Nat.zero_le _, Nat.zero_le _, Nat.zero_le _⟩

theorem Trc.InRange.count {t : Trc} (h : t.InRange) (du ml : Nat) : (t.count du ml).InRange := by
  obtain ⟨hc, hheld, harm, hring⟩ := h
  exact ⟨fun i => (PerTrip.get_map _ t.trips i).symm ▸ TripRecord.add_inRange du ml 0 (hc i),
    (TripRecord.add_held du ml 0 t.trips.tank).trans hheld, harm, hring⟩

theorem Trc.InRange.second {t : Trc} (h : t.InRange) : t.second.InRange := by
  obtain ⟨hc, hheld, harm, hring⟩ := h
  refine ⟨fun i => (PerTrip.get_map _ t.trips i).symm ▸ TripRecord.add_inRange 0 0 1 (hc i),
    (TripRecord.add_held 0 0 1 t.trips.tank).trans hheld, harm, ?_⟩
  simp [Trc.second, hring]

/-- A record replaced by one in range, with TANK left running. -/
theorem Trc.InRange.setTrip {t : Trc} (h : t.InRange) (i : TripId) {r : TripRecord} (hr : r.counts.InRange)
    (htank : i = .tank → r.held = false) : ({ t with trips := t.trips.set i r } : Trc).InRange := by
  obtain ⟨hc, hheld, harm, hring⟩ := h
  refine ⟨fun j => ?_, ?_, harm, hring⟩
  · by_cases hj : j = i
    · subst hj
      rw [PerTrip.get_set_self]
      exact hr
    · rw [PerTrip.get_set_ne _ _ hj]
      exact hc j
  · cases i
    case tank => exact htank rfl
    all_goals exact hheld

theorem Trc.InRange.resetTrip {t : Trc} (h : t.InRange) (i : TripId) : (t.resetTrip i).InRange := by
  have hset := h.setTrip i (r := (t.trips.get i).resetCounts) TripCounts.zero_inRange
    (fun hi => by subst hi; exact h.2.1)
  cases i
  case journey => exact ⟨hset.1, hset.2.1, fun harm => absurd harm Bool.false_ne_true, hset.2.2.2⟩
  all_goals exact hset

theorem Trc.InRange.disarm {t : Trc} (h : t.InRange) : ({ t with arrivalArmed := false } : Trc).InRange :=
  ⟨h.1, h.2.1, fun harm => absurd harm Bool.false_ne_true, h.2.2.2⟩

theorem Trc.InRange.clearWindow {t : Trc} (h : t.InRange) : t.clearWindow.InRange := ⟨h.1, h.2.1, h.2.2.1, rfl⟩

theorem Trc.reset_inRange : Trc.reset.InRange :=
  ⟨fun i => by cases i <;> exact TripCounts.zero_inRange, rfl, fun h => absurd h Bool.false_ne_true, rfl⟩

/-- R156: whatever the snapshot's cells hold, the records recovered from them are in range. -/
theorem recoverSnapshot_inRange (good : Bool) (cells : List (Nat × StoreWord)) :
    (∀ i, (((recoverSnapshot good cells).2).get i).counts.InRange) ∧
      (recoverSnapshot good cells).2.tank.held = false := by
  unfold recoverSnapshot
  dsimp only
  split
  · exact ⟨fun i => (PerTrip.get_of (snapshotTrip _) i).symm ▸
      ⟨clampAt_le_limit _ _, clampAt_le_limit _ _, clampAt_le_limit _ _⟩, rfl⟩
  · exact ⟨Trc.reset_inRange.1, rfl⟩

/-! ### The store's jobs -/

/-- A job's data lies inside the store. -/
def JobData.Fits : JobData → Prop
  | .odometer _ => True
  | .cells first words => 0 < words.length ∧ first + words.length ≤ Memory.size

theorem WriteJob.inStore_iff (j : WriteJob) :
    j.InStore ↔ j.data.Fits ∧ ∀ k, j.progress = some k → k < Memory.size := by
  unfold WriteJob.InStore JobData.Fits
  cases j.data <;> rfl

theorem WriteJob.inStore_new {d : JobData} (h : d.Fits) (c : JobClass) (o : Origin) :
    (⟨d, c, o, none⟩ : WriteJob).InStore :=
  (WriteJob.inStore_iff _).mpr ⟨h, fun _ hk => nomatch hk⟩

theorem ringRecord_length (v : Nat) : (ringRecord v).length = 2 := rfl

/-- A job's cells lie inside the store, wherever the ring stands. -/
theorem Nvs.firstCell_add_length_le (n : Nvs) {d : JobData} (h : d.Fits) :
    n.firstCell d + d.words.length ≤ Memory.size := by
  cases d with
  | odometer v =>
    have : n.nextSlot < 16 := Nat.mod_lt _ (by decide)
    simp only [Nvs.firstCell, JobData.words, ringRecord_length, Memory.size]
    omega
  | cells first words => exact h.2

theorem JobData.Fits.words_pos {d : JobData} (h : d.Fits) : 0 < d.words.length := by
  cases d with
  | odometer v => exact Nat.zero_lt_two
  | cells first words => exact h.1

theorem Nvs.firstCell_lt (n : Nvs) {d : JobData} (h : d.Fits) : n.firstCell d < Memory.size := by
  have := n.firstCell_add_length_le h
  have := h.words_pos
  omega

theorem Nvs.currentCell_lt (n : Nvs) {j : WriteJob} (h : j.InStore) : n.currentCell j < Memory.size := by
  obtain ⟨hfits, hprogress⟩ := j.inStore_iff.mp h
  unfold Nvs.currentCell
  cases hk : j.progress with
  | none => exact n.firstCell_lt hfits
  | some k => exact hprogress k hk

theorem JobData.mergeWith_words_length {a b : JobData} (h : a.covers b = true) :
    (a.mergeWith b).words.length = a.words.length := by
  cases a <;> cases b <;> simp_all [JobData.covers, JobData.mergeWith, JobData.words, ringRecord_length]
  omega

theorem JobData.Fits.mergeWith {a b : JobData} (ha : a.Fits) (h : a.covers b = true) : (a.mergeWith b).Fits := by
  have hlength := JobData.mergeWith_words_length h
  cases a <;> cases b
  case odometer.odometer => trivial
  case odometer.cells => exact ha
  case cells.odometer => exact ha
  case cells.cells f ws g vs =>
    simp only [JobData.mergeWith, JobData.words] at hlength
    simp only [JobData.mergeWith, JobData.Fits, hlength]
    exact ha

theorem WriteJob.InStore.merge {old new : WriteJob} (n : Nvs) (h : old.InStore)
    (hc : old.data.covers new.data = true) : (WriteJob.merge n old new).InStore := by
  have hfits := (old.inStore_iff.mp h).1.mergeWith hc
  refine (WriteJob.inStore_iff _).mpr ⟨hfits, fun k hk => ?_⟩
  obtain ⟨_, _, rfl⟩ := Option.map_eq_some_iff.mp hk
  exact n.firstCell_lt hfits

theorem mem_insertByClass {j x : WriteJob} {q : List WriteJob} (h : x ∈ insertByClass j q) : x = j ∨ x ∈ q := by
  unfold insertByClass at h
  split at h
  · simpa [or_comm] using h
  · simp only [List.mem_append, List.mem_cons, List.mem_filter] at h
    tauto

theorem Nvs.join_inStore {n : Nvs} {j : WriteJob} (hj : j.InStore) (h : ∀ q ∈ n.queue, q.InStore) :
    ∀ q ∈ n.join j, q.InStore := by
  intro q hq
  unfold Nvs.join at hq
  dsimp only at hq
  split at hq
  · obtain ⟨x, hx, rfl⟩ := List.mem_map.mp hq
    have hin := h x (List.mem_of_mem_filter hx)
    split
    · exact hin.merge n ‹_›
    · exact hin
  · rcases mem_insertByClass hq with rfl | hq
    · exact hj
    · exact h q (List.mem_of_mem_filter hq)

theorem WriteJob.InStore.withProgress {j : WriteJob} (h : j.InStore) {k : Nat} (hk : k < Memory.size) :
    ({ j with progress := some k } : WriteJob).InStore :=
  (WriteJob.inStore_iff _).mpr ⟨(j.inStore_iff.mp h).1, fun _ he => Option.some.inj he ▸ hk⟩

/-! ### The store's operations -/

theorem Nvs.Sound.withQueue {n : Nvs} (h : n.Sound) {q : List WriteJob} (hq : ∀ j ∈ q, j.InStore) :
    ({ n with queue := q } : Nvs).Sound :=
  ⟨h.1, hq, h.2.2⟩

theorem Nvs.Sound.begin {n : Nvs} (h : n.Sound) {j : WriteJob} {rest : List WriteJob} (hj : j.InStore)
    (hrest : ∀ q ∈ rest, q.InStore) : (n.begin j rest).Sound :=
  ⟨h.1, hrest, fun _ he => Option.some.inj he ▸ hj.withProgress (n.currentCell_lt hj), h.2.2.2⟩

theorem Nvs.Sound.beginNext {n : Nvs} (h : n.Sound) : n.beginNext.Sound := by
  unfold Nvs.beginNext
  split
  · exact h
  · split
    · split
      case h_1 j hj =>
        exact h.begin (h.2.1 j (List.mem_of_find?_eq_some hj)) fun q hq => h.2.1 q (List.mem_of_mem_eraseP hq)
      case h_2 => exact h
    · split
      case h_1 j rest hq =>
        exact h.begin (h.2.1 j (hq ▸ List.mem_cons_self)) fun q hin => h.2.1 q (hq ▸ List.mem_cons_of_mem j hin)
      case h_2 => exact h

theorem Nvs.Sound.restart {n : Nvs} (h : n.Sound) : n.restart.Sound := ⟨h.1, h.2.1, h.2.2.1, fun _ he => nomatch he⟩

theorem Nvs.Sound.closeLatch {n : Nvs} (h : n.Sound) : n.closeLatch.Sound := by
  refine ⟨h.1, h.2.1, h.2.2.1, fun w hw => ?_⟩
  obtain ⟨v, hv, rfl⟩ := Option.map_eq_some_iff.mp hw
  exact h.2.2.2 v hv

theorem Nvs.Sound.linkAbsent {n : Nvs} (h : n.Sound) (l : Link) : (n.linkAbsent l).Sound := by
  cases l
  case service => exact ⟨h.1, h.2.1, h.2.2.1, fun _ he => nomatch he⟩
  all_goals exact h

theorem Nvs.Sound.withWindow {n : Nvs} (h : n.Sound) {w : Window} (hw : w.index < w.region.size) :
    ({ n with window := some w } : Nvs).Sound :=
  ⟨h.1, h.2.1, h.2.2.1, fun _ he => Option.some.inj he ▸ hw⟩

theorem Region.size_pos (r : Region) : 0 < r.size := by cases r <;> decide

theorem Window.step_inside {w : Window} : w.step.index < w.step.region.size := by
  unfold Window.step
  split
  · assumption
  · exact w.region.size_pos

/-- R159: programming a cell of the job in flight keeps the cells canonical. -/
theorem Nvs.Sound.program {n : Nvs} (h : n.Sound) {j : WriteJob} (hj : j.InStore) (v : StoreWord) (u : Nat) :
    ({ n with cells := Memory.write (n.currentCell j) v n.cells, unknownCount := u } : Nvs).Sound :=
  ⟨Memory.wf_write _ _ _ h.1 (n.currentCell_lt hj), h.2⟩

theorem Nvs.Sound.idle {n : Nvs} (h : n.Sound) : ({ n with inFlight := none, cellTimer := none } : Nvs).Sound :=
  ⟨h.1, h.2.1, fun _ he => (nomatch he), h.2.2.2⟩

theorem mem_suspend {j x : WriteJob} {q : List WriteJob} (h : x ∈ suspend j q) : x = j ∨ x ∈ q := by
  unfold suspend at h
  simp only [List.mem_append, List.mem_cons, List.mem_filter] at h
  tauto

/-- R159: a job that is not at its last cell goes on to a cell inside the store. -/
theorem Nvs.Sound.nextCell {n : Nvs} (h : n.Sound) {j : WriteJob} (hj : j.InStore) (hlast : n.lastCell j = false) :
    (n.nextCell j).Sound := by
  have hend := n.firstCell_add_length_le (j.inStore_iff.mp hj).1
  have hnext : n.currentCell j + 1 < Memory.size := by
    have := of_decide_eq_false hlast
    omega
  have hj' := hj.withProgress hnext
  unfold Nvs.nextCell
  split
  · refine (Nvs.Sound.withQueue h.idle fun x hx => ?_).beginNext
    rcases mem_suspend hx with rfl | hx
    · exact hj'
    · exact h.2.1 x hx
  · exact ⟨h.1, h.2.1, fun _ he => Option.some.inj he ▸ hj', h.2.2.2⟩

theorem Nvs.reset_sound {cells : List (Nat × StoreWord)} (h : Memory.wf cells = true) (u : Nat) :
    (Nvs.reset cells u).Sound :=
  ⟨h, fun _ hq => (nomatch hq), fun _ he => (nomatch he), fun _ he => (nomatch he)⟩

end Sys2Proof.Machine
end

section
/-! PROOFS. `Keeps`: every invariant of the step is carried from one part to another. The operations that the blocks
share, in the order of the model. -/

namespace Sys2Proof.Machine

open Sys2Proof

/-! ### The relation -/

/-- Each invariant that holds of `p` holds of `q`. -/
structure Keeps (p q : Panel) : Prop where
  store : p.nvs.Sound → q.nvs.Sound
  faults : p.chk.Counted → q.chk.Counted
  entries : InOrder p.wrc.entries → InOrder q.wrc.entries
  trips : p.trc.InRange → q.trc.InRange
  supply : p.pmc.OutOfRun → q.pmc.OutOfRun

theorem Keeps.refl (p : Panel) : Keeps p p := ⟨id, id, id, id, id⟩

/-- Composition, the later operation first, as operations are written. -/
theorem Keeps.after {p q r : Panel} (k : Keeps q r) (h : Keeps p q) : Keeps p r :=
  ⟨fun i => k.store (h.store i), fun i => k.faults (h.faults i), fun i => k.entries (h.entries i),
    fun i => k.trips (h.trips i), fun i => k.supply (h.supply i)⟩

theorem Keeps.foldl {α : Type} {f : Panel → α → Panel} (h : ∀ p a, Keeps p (f p a)) :
    ∀ (l : List α) (p : Panel), Keeps p (l.foldl f p)
  | [], p => .refl p
  | a :: l, p => (Keeps.foldl h l (f p a)).after (h p a)

theorem Keeps.ite {c : Prop} [Decidable c] {p q r : Panel} (h : c → Keeps p q) (k : ¬c → Keeps p r) :
    Keeps p (if c then q else r) := by
  split
  · exact h ‹_›
  · exact k ‹_›

/-! ### Updates of one block -/

theorem withPcu_keeps (u : Pcu) (p : Panel) : Keeps p (p.withPcu u) := ⟨id, id, id, id, id⟩
theorem withSws_keeps (w : Sws) (p : Panel) : Keeps p (p.withSws w) := ⟨id, id, id, id, id⟩
theorem withAdc_keeps (a : Adc) (p : Panel) : Keeps p (p.withAdc a) := ⟨id, id, id, id, id⟩
theorem withDfa_keeps (d : Dfa) (p : Panel) : Keeps p (p.withDfa d) := ⟨id, id, id, id, id⟩
theorem withGdr_keeps (g : Gdr) (p : Panel) : Keeps p (p.withGdr g) := ⟨id, id, id, id, id⟩
theorem withSvm_keeps (v : Svm) (p : Panel) : Keeps p (p.withSvm v) := ⟨id, id, id, id, id⟩
theorem withPorts_keeps (ports : PerLink LinkPort) (p : Panel) : Keeps p (p.withPorts ports) := ⟨id, id, id, id, id⟩
theorem withPort_keeps (l : Link) (port : LinkPort) (p : Panel) : Keeps p (p.withPort l port) := ⟨id, id, id, id, id⟩
theorem notifyAll_keeps (k : NoticeKind) (p : Panel) : Keeps p (notifyAll k p) := ⟨id, id, id, id, id⟩
theorem notifyLink_keeps (k : NoticeKind) (l : Link) (p : Panel) : Keeps p (notifyLink k l p) := ⟨id, id, id, id, id⟩
theorem notifyOthers_keeps (k : NoticeKind) (l : Link) (p : Panel) : Keeps p (notifyOthers k l p) :=
  ⟨id, id, id, id, id⟩

theorem withNvs_keeps {n : Nvs} {p : Panel} (h : p.nvs.Sound → n.Sound) : Keeps p (p.withNvs n) := ⟨h, id, id, id, id⟩
theorem withChk_keeps {c : Chk} {p : Panel} (h : p.chk.Counted → c.Counted) : Keeps p (p.withChk c) :=
  ⟨id, h, id, id, id⟩
theorem withWrc_keeps {w : Wrc} {p : Panel} (h : InOrder p.wrc.entries → InOrder w.entries) : Keeps p (p.withWrc w) :=
  ⟨id, id, h, id, id⟩
theorem withTrc_keeps {t : Trc} {p : Panel} (h : p.trc.InRange → t.InRange) : Keeps p (p.withTrc t) :=
  ⟨id, id, id, h, id⟩
theorem withPmc_keeps {c : Pmc} {p : Panel} (h : p.pmc.OutOfRun → c.OutOfRun) : Keeps p (p.withPmc c) :=
  ⟨id, id, id, id, h⟩

theorem onSws_keeps (f : Sws → Sws) (p : Panel) : Keeps p (p.onSws f) := withSws_keeps _ p
theorem onAdc_keeps (f : Adc → Adc) (p : Panel) : Keeps p (p.onAdc f) := withAdc_keeps _ p
theorem onDfa_keeps (f : Dfa → Dfa) (p : Panel) : Keeps p (p.onDfa f) := withDfa_keeps _ p
theorem onPorts_keeps (f : LinkPort → LinkPort) (p : Panel) : Keeps p (p.onPorts f) := withPorts_keeps _ p
theorem onWrc_keeps (f : Wrc → Wrc) (h : ∀ w, (f w).entries = w.entries) (p : Panel) : Keeps p (p.onWrc f) :=
  withWrc_keeps fun i => (h p.wrc).symm ▸ i
theorem onTrc_keeps (f : Trc → Trc) (h : ∀ t : Trc, t.InRange → (f t).InRange) (p : Panel) : Keeps p (p.onTrc f) :=
  withTrc_keeps (h p.trc)
theorem onNvs_keeps (f : Nvs → Nvs) (h : ∀ n : Nvs, n.Sound → (f n).Sound) (p : Panel) : Keeps p (p.onNvs f) :=
  withNvs_keeps (h p.nvs)

/-- An operation that reaches the store, and else the queue alone, has only the store to keep. -/
theorem Keeps.of_queueOnly {p q : Panel} {n : Nvs} (h : QueueOnly (p.withNvs n) q) (hn : p.nvs.Sound → q.nvs.Sound) :
    Keeps p q := by
  obtain ⟨hq, _⟩ := h
  exact ⟨hn, fun i => by rw [hq]; exact i, fun i => by rw [hq]; exact i, fun i => by rw [hq]; exact i,
    fun i => by rw [hq]; exact i⟩

/-! ### Warnings -/

theorem settleLamps_keeps (p : Panel) : Keeps p (settleLamps p) := withWrc_keeps id

theorem settleWarnings_keeps (p : Panel) : Keeps p (settleWarnings p) := (settleLamps_keeps _).after (withWrc_keeps id)

theorem removeEntry_keeps (k : WarningKind) (p : Panel) : Keeps p (removeEntry k p) :=
  (notifyAll_keeps _ _).after (withWrc_keeps fun h => h.dropEntry k)

theorem judgeRemoval_keeps (k : WarningKind) (p : Panel) : Keeps p (judgeRemoval k p) := by
  unfold judgeRemoval
  split
  · exact .ite (fun _ => removeEntry_keeps k p) (fun _ => .refl p)
  · exact .refl p

theorem raiseState_keeps (k : WarningKind) (p : Panel) : Keeps p (raiseState k p) :=
  (notifyAll_keeps _ _).after (withWrc_keeps fun h => h.insertEntry _)

theorem lowerState_keeps (k : WarningKind) (p : Panel) : Keeps p (lowerState k p) :=
  (judgeRemoval_keeps k _).after (withWrc_keeps fun h => h.modifyEntry k fun _ => rfl)

theorem raiseEvent_keeps (k : WarningKind) (p : Panel) : Keeps p (raiseEvent k p) :=
  .ite (fun _ => .refl p) fun _ => .ite
    (fun _ => (settleWarnings_keeps _).after ((notifyAll_keeps _ _).after
      (withWrc_keeps fun h => h.modifyEntry k fun _ => rfl)))
    fun _ => (settleWarnings_keeps _).after ((judgeRemoval_keeps k _).after ((notifyAll_keeps _ _).after
      (withWrc_keeps fun h => h.insertEntry _)))

theorem judgeKind_keeps (k : WarningKind) (p : Panel) : Keeps p (judgeKind k p) :=
  .ite (fun _ => .refl p) fun _ => .ite (fun _ => (raiseState_keeps k _).after (withWrc_keeps id))
    fun _ => (lowerState_keeps k _).after (withWrc_keeps id)

theorem judgeLevels_keeps (p : Panel) : Keeps p (judgeLevels p) :=
  (Keeps.foldl (fun q k => judgeKind_keeps k q) stateKinds _).after (withWrc_keeps id)

theorem judgeWarnings_keeps (p : Panel) : Keeps p (judgeWarnings p) :=
  (settleWarnings_keeps _).after (judgeLevels_keeps p)

theorem takeCalibrationWarnings_keeps (p : Panel) : Keeps p (takeCalibrationWarnings p) :=
  (settleWarnings_keeps _).after
    ((Keeps.foldl (fun q k => .ite (fun _ => removeEntry_keeps k q) fun _ => .refl q) allKinds _).after
      (judgeLevels_keeps p))

theorem acknowledge_keeps (l : Link) (k : WarningKind) (e : WarningEntry) (p : Panel) :
    Keeps p (acknowledge l k e p) :=
  (settleWarnings_keeps _).after ((judgeRemoval_keeps k _).after
    ((Keeps.ite (fun _ => notifyOthers_keeps _ _ _) fun _ => .refl _).after
      (withWrc_keeps fun h => h.modifyEntry k fun _ => rfl)))

theorem makeRearQuiet_keeps (p : Panel) : Keeps p (makeRearQuiet p) :=
  (settleWarnings_keeps _).after ((Keeps.foldl (fun q k => judgeRemoval_keeps k q) _ _).after
    (withWrc_keeps fun h => h.map fun e => by split <;> rfl))

/-! ### Chimes -/

theorem endPattern_keeps (sd : Sounder) (p : Panel) : Keeps p (endPattern sd p) := withWrc_keeps id

theorem strikeEnd_keeps (sd : Sounder) (p : Panel) : Keeps p (strikeEnd sd p) := by
  unfold strikeEnd
  split
  · exact .ite
      (fun _ => (settleWarnings_keeps _).after ((endPattern_keeps sd _).after ((judgeRemoval_keeps _ _).after
        (withWrc_keeps fun h => h.modifyEntry _ fun _ => rfl))))
      fun _ => .ite (fun _ => withWrc_keeps id) fun _ => endPattern_keeps sd p
  · exact endPattern_keeps sd p
  · exact .refl p

theorem gapEnd_keeps (sd : Sounder) (p : Panel) : Keeps p (gapEnd sd p) := by
  unfold gapEnd
  split
  · exact withWrc_keeps id
  · exact .refl p

theorem restEnd_keeps (sd : Sounder) (p : Panel) : Keeps p (restEnd sd p) := by
  unfold restEnd
  split
  · exact withWrc_keeps id
  · exact .refl p

theorem resoundExpiry_keeps (k : WarningKind) (p : Panel) : Keeps p (resoundExpiry k p) := by
  unfold resoundExpiry
  split
  · exact .refl p
  · exact .ite (fun _ => (settleWarnings_keeps _).after ((judgeRemoval_keeps _ _).after
      (withWrc_keeps fun h => h.modifyEntry _ WarningEntry.resoundNow_kind))) fun _ => .refl p

/-! ### The write queue -/

theorem notifyRemoved_keeps (removed : List WriteJob) (p : Panel) : Keeps p (notifyRemoved removed p) :=
  .ite (fun _ => notifyLink_keeps _ _ _) fun _ => .refl p

/-- A queue of jobs that were waiting is a queue of jobs inside the store. -/
theorem withFewerJobs_keeps {q : List WriteJob} {p : Panel} (hq : ∀ j ∈ q, j ∈ p.nvs.queue) :
    Keeps p (p.withNvs { p.nvs with queue := q }) :=
  withNvs_keeps fun h => h.withQueue fun j hj => h.2.1 j (hq j hj)

theorem removeNormal_keeps (p : Panel) : Keeps p (removeNormal p) :=
  (notifyRemoved_keeps _ _).after (withFewerJobs_keeps fun _ => List.mem_of_mem_filter)

theorem purgeIfSupplyLow_keeps (p : Panel) : Keeps p (purgeIfSupplyLow p) :=
  .ite (fun _ => removeNormal_keeps p) fun _ => .refl p

theorem queueJob_keeps {j : WriteJob} (hj : j.InStore) (p : Panel) : Keeps p (queueJob j p) :=
  (withNvs_keeps Nvs.Sound.beginNext).after ((purgeIfSupplyLow_keeps _).after
    (withNvs_keeps fun h => h.withQueue (Nvs.join_inStore hj h.2.1)))

theorem queueUrgent_keeps {d : JobData} (hd : d.Fits) (p : Panel) : Keeps p (queueUrgent d p) := by
  have hjob := WriteJob.inStore_new hd .urgent .internal
  unfold queueUrgent
  refine .ite (fun _ => queueJob_keeps hjob p) fun _ => ?_
  split
  · exact .refl p
  · refine (queueJob_keeps hjob _).after ((notifyRemoved_keeps _ _).after (withFewerJobs_keeps fun x hx => ?_))
    exact List.mem_reverse.mp (List.mem_of_mem_eraseP (List.mem_reverse.mp hx))

theorem queueInternal_keeps {d : JobData} (hd : d.Fits) (p : Panel) : Keeps p (queueInternal d p) :=
  .ite (fun _ => .refl p) fun _ => queueJob_keeps (WriteJob.inStore_new hd _ _) p

/-! ### The service table and the day -/

theorem evaluateFirst_keeps (p : Panel) : Keeps p (evaluateFirst p) :=
  (judgeWarnings_keeps _).after (withSvm_keeps _ p)

theorem evaluate_keeps (p : Panel) : Keeps p (evaluate p) :=
  .ite (fun _ => .refl p) fun _ => (judgeWarnings_keeps _).after
    (Keeps.ite (fun _ => withSvm_keeps _ p) fun _ => (notifyAll_keeps _ _).after (withSvm_keeps _ p))

theorem dayJob_fits (dayCount : Nat) : (JobData.cells 32 (dayWords dayCount)).Fits := by
  simp [JobData.Fits, dayWords, Memory.size]

theorem tickDay_keeps (p : Panel) : Keeps p (tickDay p) :=
  .ite (fun _ => withSvm_keeps _ p) fun _ => .ite
    (fun _ => (evaluate_keeps _).after ((queueInternal_keeps (dayJob_fits _) _).after
      ((withSvm_keeps _ _).after (withSvm_keeps _ p))))
    fun _ => withSvm_keeps _ p

/-! ### Trips -/

theorem rangeInputsChanged_keeps (p : Panel) : Keeps p (rangeInputsChanged p) :=
  (judgeWarnings_keeps _).after (Keeps.ite (fun _ => withTrc_keeps id) fun _ => .refl p)

theorem resetTrip_keeps (i : TripId) (l : Link) (p : Panel) : Keeps p (resetTrip i l p) :=
  (rangeInputsChanged_keeps _).after ((notifyOthers_keeps _ _ _).after (withTrc_keeps fun h => h.resetTrip i))

theorem resetTank_keeps (p : Panel) : Keeps p (resetTank p) :=
  (notifyAll_keeps _ _).after (withTrc_keeps fun h => h.resetTrip .tank)

theorem setHeld_keeps {i : TripId} (hi : i ≠ .tank) (held : Bool) (l : Link) (p : Panel) :
    Keeps p (setHeld i held l p) :=
  .ite (fun _ => .refl p) fun _ => (notifyOthers_keeps _ _ _).after
    (withTrc_keeps fun h => h.setTrip i (h.1 i) fun htank => absurd htank hi)

theorem judgeArrival_keeps (p : Panel) : Keeps p (judgeArrival p) :=
  .ite (fun _ => (raiseEvent_keeps _ _).after ((notifyAll_keeps _ _).after (withTrc_keeps Trc.InRange.disarm)))
    fun _ => .refl p

/-! ### Distance and fuel -/

theorem odometerJob_fits (v : Nat) : (JobData.odometer v).Fits := trivial

theorem wholeKmCrossing_keeps (p : Panel) : Keeps p (wholeKmCrossing p) :=
  (judgeArrival_keeps _).after ((evaluate_keeps _).after (queueUrgent_keeps (odometerJob_fits _) p))

theorem distanceUnit_keeps (p : Panel) : Keeps p (distanceUnit p) :=
  (rangeInputsChanged_keeps _).after
    ((Keeps.ite (fun _ => wholeKmCrossing_keeps _) fun _ => .refl _).after
      ((withDfa_keeps _ _).after (withTrc_keeps fun h => h.count 1 0)))

theorem speedPulse_keeps (p : Panel) : Keeps p (speedPulse p) :=
  .ite (fun _ => withDfa_keeps _ p) fun _ => (distanceUnit_keeps _).after (withDfa_keeps _ p)

theorem millilitres_keeps (n : Nat) (p : Panel) : Keeps p (millilitres n p) :=
  .ite (fun _ => .refl p) fun _ => (rangeInputsChanged_keeps _).after
    ((withDfa_keeps _ _).after (withTrc_keeps fun h => h.count 0 n))

theorem injectorCompletion_keeps (w : Nat) (p : Panel) : Keeps p (injectorCompletion w p) :=
  (millilitres_keeps _ _).after (withDfa_keeps _ p)

theorem fuelSample_keeps (p : Panel) : Keeps p (fuelSample p) := by
  unfold fuelSample
  split
  · exact .refl p
  · split
    · exact (rangeInputsChanged_keeps _).after (withDfa_keeps _ p)
    · exact .ite
        (fun _ => (rangeInputsChanged_keeps _).after ((resetTank_keeps _).after (withDfa_keeps _ p)))
        fun _ => .ite (fun _ => (rangeInputsChanged_keeps _).after (withDfa_keeps _ p))
        fun _ => .ite (fun _ => (rangeInputsChanged_keeps _).after (withDfa_keeps _ p)) fun _ => .refl p

theorem fuelSampleExpiry_keeps (p : Panel) : Keeps p (fuelSampleExpiry p) :=
  .ite (fun _ => (fuelSample_keeps _).after (withDfa_keeps _ p)) fun _ => .refl p

theorem queueTenths_keeps (p : Panel) : Keeps p (queueTenths p) :=
  .ite (fun _ => .refl p) fun _ => queueUrgent_keeps (odometerJob_fits _) p

theorem takeOdometer_keeps (v : Nat) (p : Panel) : Keeps p (takeOdometer v p) :=
  (Keeps.ite (fun _ => evaluate_keeps _) fun _ => .refl _).after (withDfa_keeps _ p)

/-! ### Gauges -/

theorem refreshStages_keeps (p : Panel) : Keeps p (refreshStages p) := by
  have hjudge : ∀ q, Keeps q (judgePhases q) := fun q =>
    (Keeps.ite (fun _ => withGdr_keeps _ _) fun _ => .refl _).after (withGdr_keeps _ q)
  exact (withGdr_keeps _ _).after ((hjudge _).after ((withGdr_keeps _ _).after
    ((withGdr_keeps _ _).after (withGdr_keeps _ p))))

theorem requestHold_keeps (g : Gauge) (p : Panel) : Keeps p (requestHold g p) :=
  .ite (fun _ => withGdr_keeps _ p) fun _ => .refl p

theorem releaseHold_keeps (g : Gauge) (p : Panel) : Keeps p (releaseHold g p) := withGdr_keeps _ p

/-! ### The check -/

theorem formFaultIndication_keeps (p : Panel) : Keeps p (formFaultIndication p) :=
  (judgeWarnings_keeps _).after (withChk_keeps fun h => h.congr rfl rfl rfl)

theorem judgeFaultIndication_keeps (p : Panel) : Keeps p (judgeFaultIndication p) :=
  .ite (fun _ => formFaultIndication_keeps p) fun _ => judgeWarnings_keeps p

theorem lampResult_keeps (l : Lamp) (r : CheckResult) (p : Panel) : Keeps p (lampResult l r p) :=
  (settleLamps_keeps _).after (withWrc_keeps id)

theorem deliverResult_keeps (i : CheckItem) (r : CheckResult) (p : Panel) : Keeps p (deliverResult i r p) := by
  cases i
  case lamp l => exact lampResult_keeps l r p
  case coil g c => exact withGdr_keeps _ p

theorem recordResult_keeps (i : CheckItem) (r : ItemRecord) (p : Panel) : Keeps p (recordResult i r p) :=
  (judgeFaultIndication_keeps _).after ((deliverResult_keeps i _ _).after
    (withChk_keeps fun _ => Chk.counted_counted _))

/-- A change of the step leaves the items and their count. -/
theorem withStep_keeps (st : CheckState) (i : Option CheckItem) (ph : StepPhase) (t : Option Micros) (p : Panel) :
    Keeps p (p.withChk { p.chk with state := st, currentItem := i, phase := ph, driveTime := t }) :=
  withChk_keeps fun h => h.congr rfl rfl rfl

theorem beginLamp_keeps (l : Lamp) (p : Panel) : Keeps p (beginLamp l p) :=
  (settleLamps_keeps _).after (withStep_keeps _ _ _ _ p)

theorem beginGauge_keeps (g : Gauge) (p : Panel) : Keeps p (beginGauge g p) :=
  (requestHold_keeps g _).after (withStep_keeps _ _ _ _ p)

theorem driveCoil_keeps (g : Gauge) (c : Coil) (p : Panel) : Keeps p (driveCoil g c p) :=
  (withGdr_keeps _ _).after (withStep_keeps _ _ _ _ p)

theorem completeCheck_keeps (p : Panel) : Keeps p (completeCheck p) :=
  (notifyAll_keeps _ _).after (withStep_keeps _ _ _ _ p)

theorem advanceCheck_keeps (i : CheckItem) (p : Panel) : Keeps p (advanceCheck i p) := by
  match i with
  | .lamp l =>
    have hend := (settleLamps_keeps _).after (withStep_keeps p.chk.state p.chk.currentItem .none none p)
    dsimp only [advanceCheck]
    split
    · exact (beginLamp_keeps _ _).after hend
    · exact (beginGauge_keeps _ _).after hend
  | .coil g .sin => exact driveCoil_keeps g .cos p
  | .coil g .cos =>
    have hend := (releaseHold_keeps g _).after (withStep_keeps p.chk.state p.chk.currentItem .none none p)
    dsimp only [advanceCheck]
    split
    · exact (beginGauge_keeps _ _).after hend
    · exact (completeCheck_keeps _).after hend

theorem senseReading_keeps (r : Byte) (started : Micros) (p : Panel) : Keeps p (senseReading r started p) := by
  unfold senseReading
  split
  · exact .ite (fun _ => (advanceCheck_keeps _ _).after (recordResult_keeps _ _ p)) fun _ => .refl p
  · exact .refl p

theorem holdGranted_keeps (g : Gauge) (p : Panel) : Keeps p (holdGranted g p) :=
  .ite (fun _ => driveCoil_keeps g .sin p) fun _ => .refl p

theorem startCheck_keeps (source : CheckSource) (p : Panel) : Keeps p (startCheck source p) :=
  (judgeFaultIndication_keeps _).after ((beginLamp_keeps .oil _).after
    (withChk_keeps fun _ => Chk.start_counted source _))

theorem startAutomatic_keeps (p : Panel) : Keeps p (startAutomatic p) :=
  (notifyAll_keeps _ _).after (startCheck_keeps .auto p)

theorem abortCheck_keeps (p : Panel) : Keeps p (abortCheck p) := by
  unfold abortCheck
  refine .ite (fun _ => (notifyAll_keeps _ _).after ?_) fun _ => .refl p
  have hend := withStep_keeps .aborted none .none none p
  split
  · exact (releaseHold_keeps _ _).after hend
  · exact (settleLamps_keeps _).after hend

theorem driverOverload_keeps (i : CheckItem) (p : Panel) : Keeps p (driverOverload i p) :=
  (Keeps.ite (fun _ => advanceCheck_keeps i _) fun _ => .refl _).after
    ((notifyAll_keeps _ _).after (recordResult_keeps i _ p))

end Sys2Proof.Machine
end

section
/-! PROOFS. Every command, and one microsecond of the timebase, keeps the invariants of the step. -/

namespace Sys2Proof.Machine

open Sys2Proof

/-! ### Mode entries -/

theorem gaugesEnterRun_keeps (p : Panel) : Keeps p (gaugesEnterRun p) := (withGdr_keeps _ _).after (withGdr_keeps _ p)

theorem gaugesEnterShutdown_keeps (p : Panel) : Keeps p (gaugesEnterShutdown p) :=
  (withGdr_keeps _ _).after (withGdr_keeps _ p)

/-- R192 to R194: RUN is entered with the supply released. -/
theorem enterRun_keeps {p : Panel} (h : p.pmc.supplyLow = false) : Keeps p (enterRun p) := by
  have hmode : Keeps p (setMode .run (Panel.onPmc Pmc.enterRun p)) := ⟨id, id, id, id, fun _ _ => h⟩
  rw [enterRun_eq]
  exact (onPorts_keeps _ _).after ((startAutomatic_keeps _).after ((evaluate_keeps _).after
    ((judgeWarnings_keeps _).after ((onWrc_keeps Wrc.enterRun (fun _ => rfl) _).after ((gaugesEnterRun_keeps _).after
      ((onTrc_keeps Trc.clearWindow (fun _ => Trc.InRange.clearWindow) _).after ((onDfa_keeps _ _).after
        ((onAdc_keeps _ _).after ((onSws_keeps _ _).after hmode)))))))))

theorem snapshotWords_length (e : Option Nat) (trips : PerTrip TripRecord) : (snapshotWords e trips).length = 30 := rfl

theorem snapshotJob_fits (e : Option Nat) (trips : PerTrip TripRecord) :
    (JobData.cells 34 (snapshotWords e trips)).Fits := by
  simp only [JobData.Fits, snapshotWords_length]
  decide

theorem queueSnapshot_keeps (p : Panel) : Keeps p (queueSnapshot p) := queueUrgent_keeps (snapshotJob_fits _ _) p

/-- What SHUTDOWN entry does once the mode is set. -/
theorem enterShutdown_keeps_of_mode {p q : Panel}
    (h : Keeps q (setMode .shutdown (Panel.onPmc Pmc.enterShutdown p))) : Keeps q (enterShutdown p) := by
  rw [enterShutdown_eq]
  exact (onNvs_keeps Nvs.closeLatch (fun _ => Nvs.Sound.closeLatch) _).after ((abortCheck_keeps _).after
    ((judgeWarnings_keeps _).after ((onWrc_keeps Wrc.enterShutdown (fun _ => rfl) _).after
      ((gaugesEnterShutdown_keeps _).after ((queueTenths_keeps _).after ((onDfa_keeps _ _).after
        ((queueSnapshot_keeps _).after ((onSws_keeps _ _).after h))))))))

theorem setMode_outOfRun {m : Mode} (hm : m ≠ .run) (p : Panel) : (setMode m p).pmc.OutOfRun :=
  fun h => absurd h hm

theorem enterShutdown_keeps (p : Panel) : Keeps p (enterShutdown p) :=
  enterShutdown_keeps_of_mode ⟨id, id, id, id, fun _ => setMode_outOfRun (by decide) _⟩

theorem setMode_keeps {m : Mode} (hm : m ≠ .run) (p : Panel) : Keeps p (setMode m p) :=
  ⟨id, id, id, id, fun _ h => absurd h hm⟩

theorem enterStandby_keeps (p : Panel) : Keeps p (enterStandby p) :=
  (judgeWarnings_keeps _).after ((withGdr_keeps _ _).after ((withGdr_keeps _ _).after ((withAdc_keeps _ _).after
    ((withSws_keeps _ _).after (setMode_keeps (by decide) p)))))

theorem judgeRest_keeps (p : Panel) : Keeps p (judgeRest p) := .ite (fun _ => enterStandby_keeps p) fun _ => .refl p

theorem takeGaugesAtRest_keeps (p : Panel) : Keeps p (takeGaugesAtRest p) :=
  .ite (fun _ => (judgeRest_keeps _).after (withPmc_keeps id)) fun _ => .refl p

theorem takeSnapshotWritten_keeps (p : Panel) : Keeps p (takeSnapshotWritten p) :=
  .ite (fun _ => (judgeRest_keeps _).after (withPmc_keeps id)) fun _ => .refl p

theorem supplyLow_eq_false_of_ignition {a : Bool} {p : Panel} (h : (a && !p.pmc.supplyLow) = true) :
    p.pmc.supplyLow = false := by
  simpa using (Bool.and_eq_true_iff.mp h).2

theorem leaveStartup_keeps (p : Panel) : Keeps p (leaveStartup p) :=
  .ite (fun _ => .ite (fun h => enterRun_keeps (supplyLow_eq_false_of_ignition h)) fun _ => enterStandby_keeps p)
    fun _ => .refl p

theorem takeIgnition_keeps (p : Panel) : Keeps p (takeIgnition p) := by
  unfold takeIgnition
  split
  · exact leaveStartup_keeps p
  · exact .ite (fun _ => .refl p) fun _ => enterShutdown_keeps p
  all_goals exact .ite (fun h => enterRun_keeps (supplyLow_eq_false_of_ignition h)) fun _ => .refl p

theorem deliverGrants_keeps (before : PerGauge GaugeRecord) (p : Panel) : Keeps p (deliverGrants before p) :=
  Keeps.foldl (fun q g => .ite (fun _ => holdGranted_keeps g q) fun _ => .refl q) allGauges p

theorem judgeGaugesRest_keeps (p : Panel) : Keeps p (judgeGaugesRest p) :=
  .ite (fun _ => (takeGaugesAtRest_keeps _).after (withGdr_keeps _ p)) fun _ => .refl p

theorem refreshExpiry_keeps (p : Panel) : Keeps p (refreshExpiry p) :=
  .ite (fun _ => (judgeGaugesRest_keeps _).after ((deliverGrants_keeps _ _).after ((refreshStages_keeps _).after
    (withGdr_keeps _ p)))) fun _ => .refl p

/-- R193: a low supply in RUN begins SHUTDOWN, so that no part is left in RUN with it. -/
theorem supplyLowAsserted_keeps (p : Panel) : Keeps p (supplyLowAsserted p) := by
  rw [supplyLowAsserted_eq]
  refine .ite (fun _ => .refl p) fun _ => ?_
  have hjobs := removeNormal_keeps (Panel.onPmc (Pmc.setSupplyLow true) p)
  have hmode : (removeNormal (Panel.onPmc (Pmc.setSupplyLow true) p)).pmc.mode = p.pmc.mode := by
    rw [(removeNormal_only _).1]
    rfl
  generalize removeNormal (Panel.onPmc (Pmc.setSupplyLow true) p) = low at hjobs hmode
  refine .ite (fun _ => enterShutdown_keeps_of_mode ?_) fun hrun => ?_
  · exact ⟨hjobs.store, hjobs.faults, hjobs.entries, hjobs.trips, fun _ => setMode_outOfRun (by decide) _⟩
  · exact ⟨hjobs.store, hjobs.faults, hjobs.entries, hjobs.trips, fun _ h => absurd (hmode ▸ h) hrun⟩

theorem supplyLowReleased_keeps (p : Panel) : Keeps p (supplyLowReleased p) := by
  rw [supplyLowReleased_eq]
  refine .ite (fun _ => ?_) fun _ => .refl p
  exact (Keeps.ite (fun _ => enterRun_keeps rfl) fun _ => .refl _).after (withPmc_keeps fun _ _ => rfl)

theorem bulbCheckExpiry_keeps (p : Panel) : Keeps p (bulbCheckExpiry p) :=
  .ite (fun _ => (judgeWarnings_keeps _).after ((onWrc_keeps (fun w => { w with bulbCheck := false })
    (fun _ => rfl) _).after (withPmc_keeps id))) fun _ => .refl p

theorem beltTimerExpiry_keeps (p : Panel) : Keeps p (beltTimerExpiry p) :=
  .ite (fun _ => (judgeWarnings_keeps _).after ((onWrc_keeps (fun w => { w with beltWindow := false })
    (fun _ => rfl) _).after (withPmc_keeps id))) fun _ => .refl p

theorem shutdownTimerExpiry_keeps (p : Panel) : Keeps p (shutdownTimerExpiry p) :=
  .ite (fun _ => takeGaugesAtRest_keeps p) fun _ => .refl p

theorem linkGraceExpiry_keeps (p : Panel) : Keeps p (linkGraceExpiry p) :=
  .ite (fun _ => (judgeWarnings_keeps _).after (withWrc_keeps id)) fun _ => .refl p

/-! ### The converter -/

theorem conversionComplete_keeps (r : Byte) (p : Panel) : Keeps p (conversionComplete r p) := by
  cases h : p.adc.conversion with
  | none =>
    simp only [conversionComplete, h]
    exact .refl p
  | some conv =>
    rw [conversionComplete_eq r h]
    have hjudged := (judgeFaultIndication_keeps _).after
      (withAdc_keeps (Adc.taken p.nvs.calibration p.pcu.timebase conv.channel r p.adc) p)
    exact .ite (fun _ => (senseReading_keeps _ _ _).after hjudged) fun _ => hjudged

theorem persistenceExpiry_keeps (sd : Sender) (p : Panel) : Keeps p (persistenceExpiry sd p) :=
  .ite (fun _ => (judgeFaultIndication_keeps _).after (withAdc_keeps _ p)) fun _ => .refl p

/-! ### Requests -/

theorem judged_keeps {checks : List (Bool × Status)} {effect : Panel → Answer} {p : Panel}
    (h : firstRefusal checks = none → Keeps p (effect p).panel) : Keeps p (judged checks effect p).panel := by
  unfold judged
  split
  · exact .refl p
  · exact h ‹_›

/-- A check that all checks before it and after it hold with, holds. -/
theorem holds_of_firstRefusal_none {checks : List (Bool × Status)} (h : firstRefusal checks = none) :
    ∀ c ∈ checks, c.1 = true := by
  induction checks with
  | nil => exact fun _ hc => nomatch hc
  | cons d rest ih =>
    rw [firstRefusal] at h
    split at h
    · intro c hc
      rcases List.mem_cons.mp hc with rfl | hc
      · assumption
      · exact ih h c hc
    · exact nomatch h

theorem takeTripReset_keeps (l : Link) (index : Byte) (p : Panel) : Keeps p (takeTripReset l index p).panel := by
  unfold takeTripReset
  split
  · exact .refl p
  · exact judged_keeps fun _ => resetTrip_keeps _ l p

theorem takeTripState_keeps (l : Link) (index : Byte) (held : Bool) (p : Panel) :
    Keeps p (takeTripState l index held p).panel := by
  unfold takeTripState
  split
  · exact .refl p
  · refine judged_keeps fun h => setHeld_keeps ?_ held l p
    simpa using holds_of_firstRefusal_none h (_ != TripId.tank, .badValue) (by simp)

theorem takeDestination_keeps (l : Link) (km : BitVec 16) (p : Panel) : Keeps p (takeDestination l km p).panel :=
  judged_keeps fun _ => (notifyOthers_keeps _ _ _).after (withTrc_keeps fun h =>
    ⟨h.1, h.2.1, fun harm => by simp [of_decide_eq_true harm], h.2.2.2⟩)

theorem takeWarningAck_keeps (l : Link) (kind : Byte) (p : Panel) : Keeps p (takeWarningAck l kind p).panel := by
  unfold takeWarningAck
  split
  · exact .refl p
  · split
    · exact .refl p
    · exact judged_keeps fun _ => acknowledge_keeps _ _ _ p

theorem takeCall_keeps (l : Link) (p : Panel) : Keeps p (takeCall l p).panel := by
  cases l
  all_goals exact judged_keeps fun _ => raiseEvent_keeps _ p

theorem takeOverspeedSet_keeps (v : BitVec 16) (p : Panel) : Keeps p (takeOverspeedSet v p).panel :=
  judged_keeps fun _ => (judgeWarnings_keeps _).after (withWrc_keeps id)

theorem takeRearQuietSet_keeps (v : Byte) (p : Panel) : Keeps p (takeRearQuietSet v p).panel :=
  judged_keeps fun _ => Keeps.ite (fun _ => makeRearQuiet_keeps p) fun _ => withWrc_keeps id

theorem takeClockSet_keeps (l : Link) (time : BitVec 24) (p : Panel) : Keeps p (takeClockSet l time p).panel :=
  judged_keeps fun _ => (notifyOthers_keeps _ _ _).after (withSvm_keeps _ p)

theorem consumeLatch_keeps (p : Panel) : Keeps p (consumeLatch p) := withNvs_keeps id

theorem itemJob_fits (i : SlotId) (it : ServiceItem) : (itemJobData i it).Fits := by
  cases i <;> simp [itemJobData, JobData.Fits, itemWords, Memory.size, SlotId.firstCell, SlotId.idx]

theorem storeItem_keeps (i : SlotId) (it : ServiceItem) (o : Origin) (l : Link) (p : Panel) :
    Keeps p (storeItem i it o l p) :=
  (evaluate_keeps _).after ((notifyOthers_keeps _ _ _).after
    ((queueJob_keeps (WriteJob.inStore_new (itemJob_fits i it) _ _) _).after (withSvm_keeps _ p)))

theorem takeServiceReset_keeps (l : Link) (slot : Byte) (p : Panel) : Keeps p (takeServiceReset l slot p).panel := by
  unfold takeServiceReset
  split
  · exact .refl p
  · split
    · exact judged_keeps fun _ => (storeItem_keeps _ _ _ _ _).after (consumeLatch_keeps p)
    · exact judged_keeps fun _ => storeItem_keeps _ _ _ _ p

theorem takeServiceWrite_keeps (l : Link) (slot : Byte) (w : ItemParams) (p : Panel) :
    Keeps p (takeServiceWrite l slot w p).panel := by
  unfold takeServiceWrite
  split
  · exact .refl p
  · exact judged_keeps fun _ => (storeItem_keeps _ _ _ _ _).after (consumeLatch_keeps p)

theorem takeCheckStart_keeps (l : Link) (p : Panel) : Keeps p (takeCheckStart l p).panel :=
  judged_keeps fun _ => (notifyOthers_keeps _ _ _).after (startCheck_keeps _ p)

theorem takeWindowSelect_keeps (region index mode : Byte) (p : Panel) :
    Keeps p (takeWindowSelect region index mode p).panel := by
  unfold takeWindowSelect
  split
  · refine judged_keeps fun h => withNvs_keeps fun hs => hs.withWindow (w := ⟨_, _, _, _⟩) ?_
    exact of_decide_eq_true (holds_of_firstRefusal_none h _ List.mem_cons_self)
  · exact .refl p

/-- R166: the window's index stays inside its region, whether it steps or stands. -/
theorem windowStepped_keeps {w : Window} {c : Prop} [Decidable c] {p : Panel} (hw : p.nvs.window = some w) :
    Keeps p (p.withNvs { p.nvs with window := some (if c then w.step else w) }) := by
  refine withNvs_keeps fun hs => hs.withWindow ?_
  split
  · exact Window.step_inside
  · exact hs.2.2.2 w hw

theorem takeWindowRead_keeps (p : Panel) : Keeps p (takeWindowRead p).panel := by
  unfold takeWindowRead
  split
  · exact .refl p
  · exact windowStepped_keeps ‹_›

theorem Region.first_add_lt {r : Region} {i : Nat} (hi : i < r.size) : r.first + i < Memory.size := by
  cases r <;> simp only [Region.size, Region.first, Memory.size] at * <;> omega

theorem takeWindowWrite_keeps (value : StoreWord) (p : Panel) : Keeps p (takeWindowWrite value p).panel := by
  unfold takeWindowWrite
  split
  · exact .refl p
  case h_2 w hw =>
    refine judged_keeps fun _ => ?_
    have hstep : Keeps p (p.withNvs { p.nvs with window := some (if w.mode = .noStep then w else w.step) }) := by
      rw [← ite_not]
      exact windowStepped_keeps hw
    refine .of_queueOnly (queueJob_only _ _) fun hs => ((queueJob_keeps ?_ _).after hstep).store hs
    have hfits : (JobData.cells (w.region.first + w.index) [value]).Fits :=
      ⟨Nat.zero_lt_one, Region.first_add_lt (hs.2.2.2 w hw)⟩
    exact WriteJob.inStore_new hfits _ _

theorem selectorJob_inStore (bank : Bank) : (selectorJob bank).InStore := by
  refine WriteJob.inStore_new ?_ _ _
  simp [JobData.Fits, selectorCell, Memory.size]

theorem lockJob_inStore : lockJob.InStore := WriteJob.inStore_new (by simp [JobData.Fits, lockCell, Memory.size]) _ _

theorem takeBankSwitch_keeps (code : Byte) (p : Panel) : Keeps p (takeBankSwitch code p).panel := by
  unfold takeBankSwitch
  split
  · exact .refl p
  · exact judged_keeps fun _ => (queueJob_keeps (selectorJob_inStore _) _).after (withNvs_keeps id)

theorem setOdometer_keeps (v : Nat) (p : Panel) : Keeps p (setOdometer v p) := by
  rw [setOdometer_eq]
  exact (queueJob_keeps lockJob_inStore _).after
    ((queueJob_keeps (WriteJob.inStore_new (odometerJob_fits v) _ _) _).after
      ((onNvs_keeps Nvs.lockOdometer (fun _ h => h) _).after
        ((judgeFaultIndication_keeps _).after ((takeOdometer_keeps v _).after (consumeLatch_keeps p)))))

theorem takeOdometerSet_keeps (v : BitVec 24) (p : Panel) : Keeps p (takeOdometerSet v p).panel :=
  judged_keeps fun _ => setOdometer_keeps _ p

theorem carryOut_keeps (l : Link) (r : Request) (p : Panel) : Keeps p (carryOut l r p).panel := by
  cases r
  case noticesRead => exact withPort_keeps l _ p
  case noticeMaskSet mask => exact judged_keeps fun _ => withPort_keeps l _ p
  case inputsRead => exact withSws_keeps _ p
  case errorsRead => exact withPort_keeps l _ p
  case tripRead index =>
    show Keeps p (takeTripRead index p).panel
    unfold takeTripRead
    split <;> exact .refl p
  case tripReset index => exact takeTripReset_keeps l index p
  case tripHold index => exact takeTripState_keeps l index true p
  case tripResume index => exact takeTripState_keeps l index false p
  case tripSetDestination km => exact takeDestination_keeps l km p
  case warningAck kind => exact takeWarningAck_keeps l kind p
  case call => exact takeCall_keeps l p
  case overspeedSet v => exact takeOverspeedSet_keeps v p
  case rearQuietSet v => exact takeRearQuietSet_keeps v p
  case clockSet time => exact takeClockSet_keeps l time p
  case serviceReset slot => exact takeServiceReset_keeps l slot p
  case checkStart => exact takeCheckStart_keeps l p
  case serviceWrite slot item => exact takeServiceWrite_keeps l slot item p
  case storeOpen => exact withNvs_keeps id
  case windowSelect region index mode => exact takeWindowSelect_keeps region index mode p
  case windowRead => exact takeWindowRead_keeps p
  case windowWrite value => exact takeWindowWrite_keeps value p
  case bankSwitch bank => exact takeBankSwitch_keeps bank p
  case odometerSet v => exact takeOdometerSet_keeps v p
  case restart => exact ⟨id, id, id, id, id⟩
  all_goals exact .refl p

theorem answerRequest_keeps (l : Link) (r : Request) (p : Panel) : Keeps p (answerRequest l r p).panel := by
  unfold answerRequest
  split
  · exact carryOut_keeps l r p
  · exact .refl p

/-! ### Links -/

theorem takeMessage_keeps (l : Link) (m : Message) (p : Panel) : Keeps p (takeMessage l m p) := by
  cases m
  case good r => exact (withPort_keeps l _ _).after (answerRequest_keeps l r p)
  all_goals exact withPort_keeps l _ p

theorem deliverMessage_keeps (l : Link) (m : Message) (p : Panel) : Keeps p (deliverMessage l m p) := by
  unfold deliverMessage
  dsimp only
  split
  · exact withPort_keeps l _ p
  · exact .ite (fun _ => takeMessage_keeps l m p) fun _ => withPort_keeps l _ p

theorem takeWaiting_keeps (l : Link) (p : Panel) : Keeps p (takeWaiting l p) := by
  unfold takeWaiting
  dsimp only
  split
  · exact (takeMessage_keeps l _ _).after (withPort_keeps l _ p)
  · exact .refl p

theorem presenceChanged_keeps (l : Link) (p : Panel) : Keeps p (presenceChanged l p) :=
  (judgeWarnings_keeps _).after
    ((Keeps.ite (fun _ => .refl _) fun _ => withNvs_keeps fun h => h.linkAbsent l).after (notifyOthers_keeps _ _ p))

theorem goodMessage_keeps (l : Link) (p : Panel) : Keeps p (goodMessage l p) :=
  .ite (fun _ => withPort_keeps l _ p) fun _ => (presenceChanged_keeps l _).after (withPort_keeps l _ p)

theorem presenceExpiry_keeps (l : Link) (p : Panel) : Keeps p (presenceExpiry l p) :=
  .ite (fun _ => (presenceChanged_keeps l _).after (withPort_keeps l _ p)) fun _ => .refl p

theorem completeMessage_keeps (l : Link) (p : Panel) : Keeps p (completeMessage l p) :=
  .ite (fun _ => (deliverMessage_keeps l _ _).after (withPort_keeps l _ p))
    fun _ => (deliverMessage_keeps l _ _).after ((goodMessage_keeps l _).after (withPort_keeps l _ p))

theorem endMessage_keeps (l : Link) (p : Panel) : Keeps p (endMessage l p) := by
  unfold endMessage
  dsimp only
  split
  · exact withPort_keeps l _ p
  · exact withPort_keeps l _ p
  · exact completeMessage_keeps l p

theorem dataCharacter_keeps (l : Link) (c : RxChar) (p : Panel) : Keeps p (dataCharacter l c p) := by
  unfold dataCharacter
  dsimp only
  split
  · exact .ite (fun _ => .refl p) fun _ => withPort_keeps l _ p
  · exact withPort_keeps l _ p
  · exact .ite (fun _ => (completeMessage_keeps l _).after (withPort_keeps l _ p)) fun _ => withPort_keeps l _ p

theorem characterReceived_keeps (l : Link) (samples : BitVec 33) (p : Panel) :
    Keeps p (characterReceived l samples p) :=
  .ite (fun _ => (Keeps.ite (fun _ => (withPort_keeps l _ _).after (endMessage_keeps l _))
    fun _ => dataCharacter_keeps l _ _).after (withPort_keeps l _ p)) fun _ => .refl p

theorem gapTimerExpiry_keeps (l : Link) (p : Panel) : Keeps p (gapTimerExpiry l p) :=
  .ite (fun _ => endMessage_keeps l p) fun _ => .refl p

/-! ### Recovery -/

theorem Nvs.Sound.recover {n : Nvs} (h : n.Sound) : n.recover.Sound := h

theorem recoveredValues_keeps (p : Panel) : Keeps p (recoveredValues p) := by
  obtain ⟨hcounts, hheld⟩ := recoverSnapshot_inRange (formatMatches p.nvs.cells) p.nvs.cells
  exact ⟨id, id, id, fun h => ⟨hcounts, hheld, h.2.2⟩, id⟩

theorem itemsRecovered_keeps (p : Panel) : Keeps p (itemsRecovered p) := ⟨id, id, id, id, id⟩

theorem restartedValues_keeps (p : Panel) : Keeps p (restartedValues p) :=
  ⟨fun h => h.withQueue fun _ hj => (nomatch hj), id, id, id, id⟩

theorem formatJob_fits : (JobData.cells formatCell [formatCode]).Fits := by
  simp [JobData.Fits, formatCell, Memory.size]

theorem queueItemJobs_keeps (p : Panel) : Keeps p (queueItemJobs p) :=
  Keeps.foldl (fun q i => .ite (fun _ => queueInternal_keeps (itemJob_fits i _) q) fun _ => .refl q) allSlots p

theorem queueRecoveryJobs_keeps (dayLost : Bool) (p : Panel) : Keeps p (queueRecoveryJobs dayLost p) := by
  unfold queueRecoveryJobs
  extract_lets format day
  have hformat : Keeps p format := .ite (fun _ => .refl p) fun _ => queueInternal_keeps formatJob_fits p
  have hday : Keeps p day := (Keeps.ite (fun _ => queueInternal_keeps (dayJob_fits _) _) fun _ => .refl _).after hformat
  exact (queueItemJobs_keeps day).after hday

theorem recoveryDelivered_keeps (dayLost : Bool) (p : Panel) : Keeps p (recoveryDelivered dayLost p) :=
  (rangeInputsChanged_keeps _).after ((onNvs_keeps Nvs.recovered (fun _ h => h) _).after
    ((queueRecoveryJobs_keeps dayLost _).after ((formFaultIndication_keeps _).after
      ((evaluateFirst_keeps _).after (itemsRecovered_keeps p)))))

theorem finishRecovery_keeps (dayLost : Bool) (p : Panel) : Keeps p (finishRecovery dayLost p) := by
  rw [finishRecovery_eq]
  exact (leaveStartup_keeps _).after ((takeWaiting_keeps _ _).after ((takeWaiting_keeps _ _).after
    ((takeWaiting_keeps _ _).after (recoveryDelivered_keeps dayLost p))))

theorem recoverPowerOn_keeps (p : Panel) : Keeps p (recoverPowerOn p) := by
  rw [recoverPowerOn_eq]
  exact (finishRecovery_keeps _ _).after (recoveredValues_keeps p)

theorem recoverRestart_keeps (p : Panel) : Keeps p (recoverRestart p) := by
  rw [recoverRestart_eq]
  exact (finishRecovery_keeps _ _).after (restartedValues_keeps p)

/-! ### Cells and seconds -/

theorem completeBankSwitch_keeps (bank : Bank) (p : Panel) : Keeps p (completeBankSwitch bank p) := by
  have htaken : Keeps p (bankTaken bank p) := ⟨id, id, id, id, id⟩
  rw [completeBankSwitch_eq]
  exact (notifyLink_keeps _ _ _).after ((judgeFaultIndication_keeps _).after ((evaluate_keeps _).after
    ((rangeInputsChanged_keeps _).after ((takeCalibrationWarnings_keeps _).after htaken))))

theorem completeJob_keeps (d : JobData) (p : Panel) : Keeps p (completeJob d p) := by
  cases d
  case odometer v => exact withNvs_keeps id
  case cells first words =>
    refine .ite (fun _ => .ite (fun _ => .refl p) fun _ => takeSnapshotWritten_keeps p) fun _ => .ite (fun _ => ?_)
      fun _ => .refl p
    split
    · exact completeBankSwitch_keeps _ p
    · exact .refl p

theorem afterJob_keeps (p : Panel) : Keeps p (afterJob p) :=
  .ite (fun _ => recoverRestart_keeps p) fun _ => withNvs_keeps Nvs.Sound.beginNext

theorem cellProgrammed_keeps (p : Panel) : Keeps p (cellProgrammed p) := by
  unfold cellProgrammed
  split
  · exact .refl p
  case h_2 j hj =>
    dsimp only
    split
    · exact (afterJob_keeps _).after ((completeJob_keeps _ _).after
        (withNvs_keeps fun h => (h.program (h.2.2.1 j hj) _ p.nvs.unknownCount).idle))
    case isFalse hlast =>
      refine withNvs_keeps fun h => ?_
      have hin := h.2.2.1 j hj
      exact (h.program hin (p.nvs.currentWord j) p.nvs.unknownCount).nextCell hin (Bool.eq_false_iff.mpr hlast)

theorem oneSecondEvent_keeps (p : Panel) : Keeps p (oneSecondEvent p) :=
  (tickDay_keeps _).after ((Keeps.ite (fun _ => withTrc_keeps Trc.InRange.second) fun _ => .refl _).after
    (withSvm_keeps _ p))

/-! ### Resets -/

theorem keepAliveLost_keeps (p : Panel) : Keeps p (keepAliveLost p) := by
  refine ⟨fun h => ?_, id, id, id, id⟩
  simp only [keepAliveLost]
  split
  · exact h
  · exact h.program (h.2.2.1 _ ‹_›) _ _

theorem powerOnValues_keeps (units rear : Bool) (p : Panel) : Keeps p (powerOnValues units rear p) :=
  ⟨fun h => Nvs.reset_sound h.1 _, fun _ => Chk.reset_counted, fun _ => List.Pairwise.nil, fun _ => Trc.reset_inRange,
    fun _ h => (nomatch h)⟩

theorem powerOnReset_keeps (units rear : Bool) (p : Panel) : Keeps p (powerOnReset units rear p) :=
  (recoverPowerOn_keeps _).after ((powerOnValues_keeps units rear _).after
    (Keeps.ite (fun _ => keepAliveLost_keeps p) fun _ => .refl p))

theorem restartValues_keeps (units rear : Bool) (p : Panel) : Keeps p (restartValues units rear p) :=
  ⟨Nvs.Sound.restart, fun _ => Chk.reset_counted, fun _ => List.Pairwise.nil, Trc.InRange.clearWindow,
    fun _ h => (nomatch h)⟩

theorem beginRestart_keeps (units rear : Bool) (p : Panel) : Keeps p (beginRestart units rear p) :=
  (Keeps.ite (fun _ => .refl _) fun _ => recoverRestart_keeps _).after (restartValues_keeps units rear p)

theorem restartBegin_keeps (units rear : Bool) (p : Panel) : Keeps p (restartBegin units rear p) :=
  .ite (fun _ => beginRestart_keeps units rear p) fun _ => .refl p

theorem replyEnd_keeps (l : Link) (p : Panel) : Keeps p (replyEnd l p) :=
  .ite (fun _ => .refl p) fun _ => .ite (fun _ => beginRestart_keeps _ _ p)
    fun _ => (takeWaiting_keeps l _).after (withPort_keeps l _ p)

/-! ### Pulses and switches -/

theorem pulseEdge_keeps (ch : PulseChannel) (p : Panel) : Keeps p (pulseEdge ch p) := by
  refine .ite (fun _ => ?_) fun _ => .refl p
  cases ch
  · exact (speedPulse_keeps _).after (withPcu_keeps _ p)
  · exact withPcu_keeps _ p

theorem injectorClose_keeps (p : Panel) : Keeps p (injectorClose p) := by
  unfold injectorClose
  split
  · exact .refl p
  · exact (injectorCompletion_keeps _ _).after (withPcu_keeps _ p)

/-- A timer of the Pulse Capture Unit whose expiry has the warnings judged. -/
theorem pulseTimer_keeps {c : Prop} [Decidable c] (u : Pcu) (p : Panel) :
    Keeps p (if c then judgeWarnings (p.withPcu u) else p) :=
  .ite (fun _ => (judgeWarnings_keeps _).after (withPcu_keeps u p)) fun _ => .refl p

/-- A timer of the Pulse Capture Unit whose expiry reaches nothing else. -/
theorem quietPulseTimer_keeps {c : Prop} [Decidable c] (u : Pcu) (p : Panel) :
    Keeps p (if c then p.withPcu u else p) :=
  .ite (fun _ => withPcu_keeps u p) fun _ => .refl p

theorem deliverLevel_keeps (i : SwitchInput) (pressed : Bool) (p : Panel) : Keeps p (deliverLevel i pressed p) := by
  cases i
  case ignOn => exact takeIgnition_keeps p
  case rearCall => exact .ite (fun _ => raiseEvent_keeps _ p) fun _ => .refl p
  all_goals exact .refl p

theorem deliverSample_keeps (p : Panel) (e : SwitchInput × SampleEvent) : Keeps p (deliverSample p e) := by
  obtain ⟨i, ev⟩ := e
  cases ev
  · exact .refl p
  · exact (deliverLevel_keeps i false _).after (judgeWarnings_keeps p)
  · exact (deliverLevel_keeps i true _).after ((judgeWarnings_keeps _).after ((notifyAll_keeps _ _).after
      (withSws_keeps _ p)))

theorem switchSample_keeps (pins : BitVec 12) (p : Panel) : Keeps p (switchSample pins p) :=
  (Keeps.foldl deliverSample_keeps _ _).after (withSws_keeps _ p)

/-! ### One microsecond -/

theorem countDown_keeps (p : Panel) : Keeps p p.countDown := ⟨id, id, fun h => h.map fun _ => rfl, id, id⟩

theorem replyCharacterEnd_keeps (l : Link) (p : Panel) : Keeps p (replyCharacterEnd l p) := by
  unfold replyCharacterEnd
  dsimp only
  split
  · exact .refl p
  · exact .ite (fun _ => withPort_keeps l _ p) fun _ => replyEnd_keeps l p

theorem playerStepEnd_keeps (sd : Sounder) (p : Panel) : Keeps p (playerStepEnd sd p) := by
  unfold playerStepEnd
  split
  · exact .refl p
  · exact strikeEnd_keeps sd p
  · exact strikeEnd_keeps sd p
  · exact gapEnd_keeps sd p
  · exact restEnd_keeps sd p

theorem conversionEnd_keeps (p : Panel) : Keeps p (conversionEnd p) := by
  unfold conversionEnd
  split
  · exact .refl p
  · exact conversionComplete_keeps _ p

theorem linkExpiries_keep (l : Link) : ∀ e ∈ linkExpiries l, ∀ p, Keeps p (e.effect p) := by
  simp only [linkExpiries, List.forall_mem_cons]
  exact ⟨gapTimerExpiry_keeps l, replyCharacterEnd_keeps l, fun p => withPort_keeps l _ p, presenceExpiry_keeps l,
    fun _ h => (nomatch h)⟩

theorem expiries_keep : ∀ e ∈ expiries, ∀ p, Keeps p (e.effect p) := by
  simp only [expiries, List.forall_mem_append, List.forall_mem_cons, List.forall_mem_map]
  refine ⟨⟨⟨⟨⟨⟨⟨⟨⟨?_, ?_, ?_, ?_, ?_, ?_, ?_, ?_, ?_, ?_⟩, ?_⟩, ?_, ?_, ?_⟩, ?_⟩, ?_, ?_, ?_, ?_, ?_, ?_⟩,
    linkExpiries_keep .front⟩, linkExpiries_keep .rear⟩, linkExpiries_keep .service⟩,
    bulbCheckExpiry_keeps, beltTimerExpiry_keeps, shutdownTimerExpiry_keeps, ?_⟩
  · exact fun p => quietPulseTimer_keeps _ p
  · exact fun p => pulseTimer_keeps _ p
  · exact fun p => pulseTimer_keeps _ p
  · exact fun p => pulseTimer_keeps _ p
  · exact fun p => pulseTimer_keeps _ p
  · exact fun p => quietPulseTimer_keeps _ p
  · exact fun p => quietPulseTimer_keeps _ p
  · exact fun p => switchSample_keeps _ p
  · exact conversionEnd_keeps
  · exact fun _ h => (nomatch h)
  · exact fun sd _ => persistenceExpiry_keeps sd
  · exact fuelSampleExpiry_keeps
  · exact refreshExpiry_keeps
  · exact fun _ h => (nomatch h)
  · exact fun k _ => resoundExpiry_keeps k
  · exact playerStepEnd_keeps .front
  · exact playerStepEnd_keeps .rear
  · exact linkGraceExpiry_keeps
  · exact oneSecondEvent_keeps
  · exact cellProgrammed_keeps
  · exact fun _ h => (nomatch h)
  · exact fun _ h => (nomatch h)

theorem foldl_take_keeps : ∀ (es : List Expiry), (∀ e ∈ es, ∀ p, Keeps p (e.effect p)) → ∀ p : Panel,
    Keeps p (es.foldl Expiry.take p)
  | [], _, p => .refl p
  | e :: es, h, p => by
    obtain ⟨he, hes⟩ := List.forall_mem_cons.mp h
    exact (foldl_take_keeps es hes _).after (Keeps.ite (fun _ => he p) fun _ => .refl p)

theorem tick_keeps (p : Panel) : Keeps p p.tick := (foldl_take_keeps expiries expiries_keep _).after (countDown_keeps p)

end Sys2Proof.Machine
end

section
/-! PROOFS. The invariants of the step: every command and every idle step keeps them, and they hold right after
reset. -/

namespace Sys2Proof.Machine

open Sys2Proof

theorem commandEffect_keeps (c : Instr) (p : Panel) : Keeps p (commandEffect c p) := by
  cases c
  case pulseEdge ch => exact pulseEdge_keeps ch p
  case injectorOpen => exact withPcu_keeps _ p
  case injectorClose => exact injectorClose_keeps p
  case longPulseExpiry => exact quietPulseTimer_keeps _ p
  case gateExpiry => exact pulseTimer_keeps _ p
  case quietExpiry ch => exact pulseTimer_keeps _ p
  case engineSecondsExpiry => exact pulseTimer_keeps _ p
  case stationaryExpiry => exact quietPulseTimer_keeps _ p
  case stationarySecondsExpiry => exact quietPulseTimer_keeps _ p
  case switchSample pins => exact switchSample_keeps pins p
  case conversionComplete reading => exact conversionComplete_keeps reading p
  case persistenceExpiry sd => exact Machine.persistenceExpiry_keeps sd p
  case driverOverload i => exact driverOverload_keeps i p
  case fuelSampleExpiry => exact fuelSampleExpiry_keeps p
  case refreshExpiry => exact refreshExpiry_keeps p
  case resoundExpiry k => exact resoundExpiry_keeps k p
  case strikeEnd sd => exact strikeEnd_keeps sd p
  case gapEnd sd => exact gapEnd_keeps sd p
  case restEnd sd => exact restEnd_keeps sd p
  case linkGraceExpiry => exact linkGraceExpiry_keeps p
  case oneSecondEvent => exact oneSecondEvent_keeps p
  case cellProgrammed => exact cellProgrammed_keeps p
  case powerOnReset units rear => exact powerOnReset_keeps units rear p
  case restartBegin units rear => exact restartBegin_keeps units rear p
  case supplyLowAsserted => exact supplyLowAsserted_keeps p
  case supplyLowReleased => exact supplyLowReleased_keeps p
  case bulbCheckExpiry => exact bulbCheckExpiry_keeps p
  case beltTimerExpiry => exact beltTimerExpiry_keeps p
  case shutdownTimerExpiry => exact shutdownTimerExpiry_keeps p
  case characterReceived l samples => exact characterReceived_keeps l samples p
  case gapTimerExpiry l => exact gapTimerExpiry_keeps l p
  case replyEnd l => exact replyEnd_keeps l p
  case presenceExpiry l => exact presenceExpiry_keeps l p
  case keepAliveLost => exact keepAliveLost_keeps p
  case falseStart l => exact .refl p
  case rxReturnsToIdleLevel l => exact withPort_keeps l _ p
  all_goals exact deliverMessage_keeps _ _ p

/-- Every step keeps every invariant: it is one command's effect, one microsecond, or nothing. -/
theorem step_keeps {s t : State} (h : step s = .next t) : Keeps s.toPanel t.toPanel := by
  cases hq : s.pending with
  | nil =>
    rw [step_tick hq, tick, State.act_eq] at h
    obtain rfl := Host.Outcome.next.inj h
    exact .ite (fun _ => tick_keeps _) fun _ => .refl _
  | cons c rest =>
    rw [step_exec hq] at h
    rcases exec_eq_next c { s with pending := rest } with he | he
    · obtain rfl := Host.Outcome.next.inj (h.symm.trans he)
      exact commandEffect_keeps c s.toPanel
    · obtain rfl := Host.Outcome.next.inj (h.symm.trans he)
      exact .refl _

/-- Settles O5: a job joins, merges, begins, goes on and is suspended inside the store, and a cell is written at the
place of a job inside the store. -/
theorem everyStepKeepsTheStoreSound : Obligations.EveryStepKeepsTheStoreSound :=
  fun _ _ hinv hstep => (step_keeps hstep).store hinv

/-- Settles O6: a result is recorded with the items counted afresh, and a check starts with no fault. -/
theorem everyStepKeepsFaultsCounted : Obligations.EveryStepKeepsFaultsCounted :=
  fun _ _ hinv hstep => (step_keeps hstep).faults hinv

/-- Settles O7: an entry is inserted at its priority in place of one of its kind, and every other change of the list
keeps the kinds or takes entries away. -/
theorem everyStepKeepsEntriesInOrder : Obligations.EveryStepKeepsEntriesInOrder :=
  fun _ _ hinv hstep => (step_keeps hstep).entries hinv

/-- Settles O8: counts are clamped where they grow and where they are recovered, and arming follows the destination. -/
theorem everyStepKeepsTripsInRange : Obligations.EveryStepKeepsTripsInRange :=
  fun _ _ hinv hstep => (step_keeps hstep).trips hinv

/-- Settles O9: RUN is entered with the supply released only, and a low supply in RUN begins SHUTDOWN at once. -/
theorem everyStepKeepsOutOfRunOnLowSupply : Obligations.EveryStepKeepsOutOfRunOnLowSupply :=
  fun _ _ hinv hstep => (step_keeps hstep).supply hinv

theorem resetItemJob_inStore {i : Nat} (hi : i < 4) : (resetItemJob i none).InStore := by
  refine WriteJob.inStore_new ?_ _ _
  simp only [JobData.Fits, Memory.size, List.length_cons, List.length_nil]
  omega

theorem reset_store_sound : State.reset.nvs.Sound := by
  refine ⟨rfl, ?_, ?_, fun _ hw => (nomatch hw)⟩
  · simp only [State.reset, Nvs.afterReset, List.forall_mem_cons]
    exact ⟨WriteJob.inStore_new (by simp [JobData.Fits, Memory.size]) _ _, resetItemJob_inStore (by decide),
      resetItemJob_inStore (by decide), resetItemJob_inStore (by decide), resetItemJob_inStore (by decide),
      fun _ h => (nomatch h)⟩
  · intro j hj
    obtain rfl := Option.some.inj hj
    simp [WriteJob.InStore, Memory.size]

/-- Settles O10: the queue of a reset is five jobs inside the store and the sixth in flight; every record is at its
reset value. -/
theorem theInvariantsHoldAtReset : Obligations.TheInvariantsHoldAtReset :=
  ⟨reset_store_sound, Chk.reset_counted.congr rfl rfl rfl, List.Pairwise.nil, Trc.reset_inRange,
    fun h => (nomatch h)⟩

/-- Settles O1: this is how `step` is defined. -/
theorem stepRunsTheFrontCommand : Obligations.StepRunsTheFrontCommand := fun _ _ _ => step_exec rfl

/-- Settles O2: a command's effect is a function of the part alone, and is left out while the part is not kept alive,
but for a power-on reset. -/
theorem everyCommandAnswersNext : Obligations.EveryCommandAnswersNext := by
  intro c s
  by_cases h : ∃ units rear, c = .powerOnReset units rear
  · obtain ⟨units, rear, rfl⟩ := h
    exact ⟨_, exec_powerOnReset units rear s, fun _ hne => absurd rfl (hne units rear)⟩
  · refine ⟨_, (exec_eq_act (fun units rear hc => h ⟨units, rear, hc⟩) s).trans (State.act_eq _ s), fun hp _ => ?_⟩
    simp [hp]

end Sys2Proof.Machine
end

section
/-! PROOFS. Timers: expiries that are not under way, and the timers whose expiry is judged by the warnings alone. -/

namespace Sys2Proof.Machine

open Sys2Proof

/-! ### Expiries that are not under way -/

/-- A command whose effect leaves the part answers with the machine as it was. -/
theorem exec_eq_self {c : Instr} {s : State} (hc : ∀ units rear, c ≠ .powerOnReset units rear)
    (h : commandEffect c s.toPanel = s.toPanel) : exec c s = .next s := by
  rw [exec_eq_act hc, State.act_eq, h, ite_self]

/-- A command of a part that is kept alive is its effect. -/
theorem exec_eq_effect {c : Instr} {s : State} (hp : s.powered = true) :
    exec c s = .next { s with toPanel := commandEffect c s.toPanel } := by
  by_cases h : ∃ units rear, c = .powerOnReset units rear
  · obtain ⟨units, rear, rfl⟩ := h
    exact exec_powerOnReset units rear s
  · rw [exec_eq_act (fun units rear hc => h ⟨units, rear, hc⟩), State.act_powered _ hp]

theorem resoundExpiry_eq_self {k : WarningKind} {p : Panel} (h : ∀ e, p.wrc.entry k = some e → e.resound = none) :
    resoundExpiry k p = p := by
  unfold resoundExpiry
  split
  · rfl
  · rw [h _ ‹_›]
    rfl

/-- Settles O4: each of these commands first looks whether its timer runs or its operation is under way. -/
theorem idleTimersHaveNoExpiry : Obligations.IdleTimersHaveNoExpiry := by
  unfold Obligations.IdleTimersHaveNoExpiry
  intro s
  refine ⟨fun h => ?_, fun h => ?_, fun h => ?_, fun ch h => ?_, fun h => ?_, fun h => ?_, fun h => ?_, fun r h => ?_,
    fun sd h => ?_, fun h => ?_, fun h => ?_, fun k h => ?_, fun sd h => ⟨?_, ?_, ?_⟩, fun h => ?_, fun h => ?_,
    fun units rear h => ?_, fun h => ?_, fun h => ?_, fun h => ?_, fun l h => ?_, fun l h => ?_, fun l h => ?_⟩
  all_goals refine exec_eq_self (fun _ _ hc => (nomatch hc)) ?_
  · simp [commandEffect, injectorClose, h]
  · simp [commandEffect, longPulseExpiry, h]
  · simp [commandEffect, gateExpiry, h]
  · simp [commandEffect, quietExpiry, h]
  · simp [commandEffect, engineSecond, h]
  · simp [commandEffect, stationaryExpiry, h]
  · simp [commandEffect, stationarySecond, h]
  · simp [commandEffect, conversionComplete, h]
  · simp [commandEffect, persistenceExpiry, h]
  · simp [commandEffect, fuelSampleExpiry, h]
  · simp [commandEffect, refreshExpiry, h]
  · exact resoundExpiry_eq_self h
  · simp [commandEffect, strikeEnd, h]
  · simp [commandEffect, gapEnd, h]
  · simp [commandEffect, restEnd, h]
  · simp [commandEffect, linkGraceExpiry, h]
  · simp [commandEffect, cellProgrammed, h]
  · simp [commandEffect, restartBegin, h]
  · simp [commandEffect, bulbCheckExpiry, h]
  · simp [commandEffect, beltTimerExpiry, h]
  · simp [commandEffect, shutdownTimerExpiry, h]
  · simp [commandEffect, gapTimerExpiry, h]
  · simp [commandEffect, replyEnd, h]
  · simp [commandEffect, Machine.presenceExpiry, h]

/-! ### Timers that have the warnings judged -/

/-- A command whose effect is a judgement of the warnings on a part changed before it. -/
theorem exec_judged {c : Instr} {s : State} {p : Panel} (hp : s.powered = true)
    (h : commandEffect c s.toPanel = judgeWarnings p) :
    ∃ q, exec c s = .next { s with toPanel := q } ∧ WarningsJudged p q :=
  ⟨judgeWarnings p, by rw [exec_eq_effect hp, h], judgeWarnings_judged p⟩

/-- R10: a clamped count is the lesser of its limit and itself. -/
theorem clampAt_eq_min (limit n : Nat) : clampAt limit n = min limit n := Nat.min_comm n limit

theorem engineSecond_eq {p : Panel} (h : p.pcu.engineSecondsTimer.isSome = true) : engineSecond p =
    judgeWarnings (p.withPcu { p.pcu with
      engineRunTime := min 65535 (p.pcu.engineRunTime + 1), engineSecondsTimer := some 1000000 }) := by
  rw [engineSecond, if_pos h, clampAt_eq_min]
  rfl

theorem stationarySecond_eq {p : Panel} (h : p.pcu.stationarySecondsTimer.isSome = true) : stationarySecond p =
    p.withPcu { p.pcu with
      stationaryTime := min 65535 (p.pcu.stationaryTime + 1), stationarySecondsTimer := some 1000000 } := by
  rw [stationarySecond, if_pos h, clampAt_eq_min]
  rfl

/-- A command whose effect on the part is known. -/
theorem exec_of_effect {c : Instr} {s : State} {q : Panel} (hp : s.powered = true) (h : commandEffect c s.toPanel = q) :
    exec c s = .next { s with toPanel := q } := by
  rw [exec_eq_effect hp, h]

/-- Settles O15: each timer's expiry sets its registers, and the first three have the warnings judged on them. -/
theorem thePulseTimersExpire : Obligations.ThePulseTimersExpire := by
  unfold Obligations.ThePulseTimersExpire
  intro s hp
  exact ⟨fun h => exec_judged hp (if_pos h), fun h => exec_judged hp (if_pos h),
    fun h => exec_judged hp (engineSecond_eq h), fun h => exec_of_effect hp (if_pos h),
    fun h => exec_of_effect hp (stationarySecond_eq h)⟩

/-- Settles O30: each expiry closes its window, and has the warnings judged without it. -/
theorem theRunWindowsClose : Obligations.TheRunWindowsClose := by
  unfold Obligations.TheRunWindowsClose
  intro s hp
  exact ⟨fun h => exec_judged hp (if_pos h), fun h => exec_judged hp (if_pos h), fun h => exec_judged hp (if_pos h)⟩

end Sys2Proof.Machine
end

section
/-! PROOFS. The idle step: one microsecond counted down, and the timer that is due taken (assumption 1). -/

namespace Sys2Proof.Machine

open Sys2Proof

/-! ### Counting down -/

/-- R2: a running timer is one microsecond less. -/
theorem Timer.count_eq (t : Timer) : Timer.count t = t.map (fun n => n - 1) := rfl

/-- An optional record's timer, counted down with its record. -/
theorem bind_map_count {α : Type} (timer : α → Timer) (f : α → α) (h : ∀ a, timer (f a) = Timer.count (timer a))
    (o : Option α) : (o.map f).bind timer = (o.bind timer).map (fun n => n - 1) := by
  cases o with
  | none => rfl
  | some a => exact h a

theorem countDown_entry (p : Panel) (k : WarningKind) : p.countDown.wrc.entry k =
    (p.wrc.entry k).map (fun e => { e with resound := Timer.count e.resound }) := by
  simp only [Wrc.entry, Panel.countDown, Wrc.countDown, List.find?_map]
  rfl

theorem countDown_port (p : Panel) (l : Link) : p.countDown.lnk.ports.get l = (p.lnk.ports.get l).countDown :=
  PerLink.get_map LinkPort.countDown p.lnk.ports l

theorem countDown_fault (p : Panel) (sd : Sender) : p.countDown.adc.faults.get sd =
    { p.adc.faults.get sd with persistence := Timer.count (p.adc.faults.get sd).persistence } :=
  PerSender.get_map _ p.adc.faults sd

theorem countDown_player (p : Panel) (sd : Sounder) : p.countDown.wrc.players.get sd =
    { p.wrc.players.get sd with timer := Timer.count (p.wrc.players.get sd).timer } :=
  PerSounder.get_map _ p.wrc.players sd

theorem linkExpiries_countDown (l : Link) (p : Panel) :
    ∀ e ∈ linkExpiries l, e.timer p.countDown = (e.timer p).map (fun n => n - 1) := by
  simp only [linkExpiries, List.forall_mem_cons, countDown_port]
  exact ⟨rfl, bind_map_count Reply.timer Reply.countDown (fun _ => rfl) _,
    bind_map_count Reply.timer Reply.countDown (fun _ => rfl) _, rfl, fun _ h => (nomatch h)⟩

/-- R2: every running timer is one microsecond less. -/
theorem expiries_countDown (p : Panel) :
    ∀ e ∈ expiries, e.timer p.countDown = (e.timer p).map (fun n => n - 1) := by
  simp only [expiries, List.forall_mem_append, List.forall_mem_cons, List.forall_mem_map, countDown_fault,
    countDown_entry]
  refine ⟨⟨⟨⟨⟨⟨⟨⟨⟨rfl, rfl, rfl, rfl, rfl, rfl, rfl, rfl, ?_, ?_⟩, ?_⟩, rfl, rfl, ?_⟩, ?_⟩,
    rfl, rfl, rfl, rfl, rfl, ?_⟩,
    linkExpiries_countDown .front p⟩, linkExpiries_countDown .rear p⟩, linkExpiries_countDown .service p⟩,
    rfl, rfl, rfl, fun _ h => (nomatch h)⟩
  · exact bind_map_count Conversion.timer _ (fun _ => rfl) _
  · exact fun _ h => (nomatch h)
  · exact fun _ _ => rfl
  · exact fun _ h => (nomatch h)
  · exact fun k _ => bind_map_count WarningEntry.resound _ (fun _ => rfl) _
  · exact fun _ h => (nomatch h)

/-! ### The expiries taken -/

theorem foldl_take_of_none_due {p : Panel} : ∀ {es : List Expiry}, (∀ e ∈ es, e.timer p ≠ some 0) →
    es.foldl Expiry.take p = p
  | [], _ => rfl
  | e :: es, h => by
    obtain ⟨he, hes⟩ := List.forall_mem_cons.mp h
    rw [List.foldl_cons, Expiry.take, if_neg he, foldl_take_of_none_due hes]

/-- The one timer that is due is taken, when its effect makes none due. -/
theorem foldl_take_of_one_due {p : Panel} {e : Expiry} (hdue : e.timer p = some 0) : ∀ {es : List Expiry}, e ∈ es →
    es.countP (fun e => e.timer p == some 0) = 1 →
    (∀ e' ∈ es, e'.timer p ≠ some 0 → e'.timer (e.effect p) ≠ some 0) → es.foldl Expiry.take p = e.effect p
  | d :: es, hmem, hcount, hlater => by
    rw [List.countP_cons] at hcount
    rw [List.foldl_cons, Expiry.take]
    by_cases hd : d.timer p = some 0
    · have hnone : ∀ e' ∈ es, e'.timer p ≠ some 0 := by
        simpa [hd] using hcount
      obtain rfl : e = d := by
        rcases List.mem_cons.mp hmem with h | h
        · exact h
        · exact absurd hdue (hnone e h)
      rw [if_pos hd]
      exact foldl_take_of_none_due fun e' he' => hlater e' (List.mem_cons_of_mem _ he') (hnone e' he')
    · have hin : e ∈ es := by
        rcases List.mem_cons.mp hmem with rfl | h
        · exact absurd hdue hd
        · exact h
      rw [if_neg hd]
      refine foldl_take_of_one_due hdue hin ?_ fun e' he' => hlater e' (List.mem_cons_of_mem _ he')
      simpa [hd] using hcount

/-! ### The expiry of each timed command -/

/-- A command of a timer stands for one of the expiries, which has the command's timer and effect. -/
def TakenAs (p : Panel) (ct : Instr × Timer) : Prop :=
  ∃ e ∈ expiries, e.timer p = ct.2 ∧ e.effect p = commandEffect ct.1 p

theorem linkExpiries_subset (l : Link) : ∀ e ∈ linkExpiries l, e ∈ expiries := by
  intro e he
  simp only [expiries, List.mem_append]
  cases l
  case front => exact .inl (.inl (.inl (.inr he)))
  case rear => exact .inl (.inl (.inr he))
  case service => exact .inl (.inr he)

theorem resoundExpiry_mem (k : WarningKind) :
    (⟨fun p => (p.wrc.entry k).bind WarningEntry.resound, resoundExpiry k⟩ : Expiry) ∈ expiries := by
  have hk : k ∈ allKinds := by cases k <;> decide
  simp only [expiries, List.mem_append]
  exact .inl (.inl (.inl (.inl (.inl (.inr (List.mem_map_of_mem hk))))))

theorem persistenceExpiry_mem (sd : Sender) :
    (⟨fun p => (p.adc.faults.get sd).persistence, persistenceExpiry sd⟩ : Expiry) ∈ expiries := by
  have hsd : sd ∈ allSenders := by cases sd <;> decide
  simp only [expiries, List.mem_append]
  exact .inl (.inl (.inl (.inl (.inl (.inl (.inl (.inr (List.mem_map_of_mem hsd))))))))

/-- The expiry at a place of the fixed order. -/
theorem takenAs_of_place {p : Panel} {ct : Instr × Timer} (n : Nat) {e : Expiry} (hn : expiries[n]? = some e)
    (ht : e.timer p = ct.2) (he : e.effect p = commandEffect ct.1 p) : TakenAs p ct :=
  ⟨e, List.mem_of_getElem? hn, ht, he⟩

theorem linkCommands_takenAs (p : Panel) (l : Link) : ∀ ct ∈ linkCommands l (p.lnk.ports.get l), TakenAs p ct := by
  have hat : ∀ {n e}, (linkExpiries l)[n]? = some e → e ∈ expiries := fun h =>
    linkExpiries_subset l _ (List.mem_of_getElem? h)
  simp only [linkCommands, List.forall_mem_append, List.forall_mem_cons]
  refine ⟨⟨⟨_, hat (n := 0) rfl, rfl, rfl⟩, ⟨_, hat (n := 3) rfl, rfl, rfl⟩, fun _ h => (nomatch h)⟩, ?_⟩
  cases hr : (p.lnk.ports.get l).reply with
  | none => exact fun _ h => (nomatch h)
  | some r =>
    dsimp only
    split
    · exact fun _ h => (nomatch h)
    case isFalse hlast =>
      rw [List.forall_mem_cons]
      refine ⟨⟨_, hat (n := 1) rfl, ?_, ?_⟩, fun _ h => (nomatch h)⟩
      · exact congrArg (fun o => Option.bind o Reply.timer) hr
      · show replyCharacterEnd l p = replyEnd l p
        simp only [replyCharacterEnd, hr, if_neg hlast]

theorem playerCommand_takenAs (p : Panel) (sd : Sounder) {c : Instr}
    (hc : playerCommand sd (p.wrc.players.get sd).state = some c) : TakenAs p (c, (p.wrc.players.get sd).timer) := by
  have heffect : playerStepEnd sd p = commandEffect c p := by
    unfold playerStepEnd
    cases hs : (p.wrc.players.get sd).state <;> rw [hs] at hc <;> cases hc <;> rfl
  cases sd
  · exact takenAs_of_place 29 rfl rfl heffect
  · exact takenAs_of_place 30 rfl rfl heffect

theorem timedCommands_takenAs (p : Panel) : ∀ ct ∈ timedCommands p, TakenAs p ct := by
  simp only [timedCommands, List.forall_mem_append, List.forall_mem_cons, List.forall_mem_map]
  refine ⟨⟨⟨⟨⟨⟨⟨⟨⟨?_, ?_, ?_, ?_, ?_, ?_, ?_, ?_, ?_⟩, ?_⟩, ?_⟩, ?_, ?_, ?_⟩, ?_⟩, ?_⟩, ?_, ?_, ?_, ?_⟩, ?_⟩,
    ?_, ?_, ?_, ?_⟩
  · exact takenAs_of_place 0 rfl rfl rfl
  · exact takenAs_of_place 1 rfl rfl rfl
  · exact takenAs_of_place 2 rfl rfl rfl
  · exact takenAs_of_place 3 rfl rfl rfl
  · exact takenAs_of_place 4 rfl rfl rfl
  · exact takenAs_of_place 5 rfl rfl rfl
  · exact takenAs_of_place 6 rfl rfl rfl
  · exact takenAs_of_place 7 rfl rfl rfl
  · exact fun _ h => (nomatch h)
  · intro conv hconv
    have hsome : p.adc.conversion = some conv := by simpa using hconv
    refine takenAs_of_place 8 rfl ?_ ?_
    · exact congrArg (fun o => Option.bind o Conversion.timer) hsome
    · show conversionEnd p = conversionComplete _ p
      simp only [conversionEnd, hsome]
  · exact fun sd _ => ⟨_, persistenceExpiry_mem sd, rfl, rfl⟩
  · exact takenAs_of_place 12 rfl rfl rfl
  · exact takenAs_of_place 13 rfl rfl rfl
  · exact fun _ h => (nomatch h)
  · exact fun e _ => ⟨_, resoundExpiry_mem e.kind, rfl, rfl⟩
  · intro ct hct
    obtain ⟨sd, _, hsd⟩ := List.mem_filterMap.mp hct
    obtain ⟨c, hc, rfl⟩ := Option.map_eq_some_iff.mp hsd
    exact playerCommand_takenAs p sd hc
  · exact takenAs_of_place 31 rfl rfl rfl
  · exact takenAs_of_place 32 rfl rfl rfl
  · exact takenAs_of_place 33 rfl rfl rfl
  · exact fun _ h => (nomatch h)
  · intro ct hct
    obtain ⟨l, _, hl⟩ := List.mem_flatMap.mp hct
    exact linkCommands_takenAs p l ct hl
  · exact takenAs_of_place 46 rfl rfl rfl
  · exact takenAs_of_place 47 rfl rfl rfl
  · exact takenAs_of_place 48 rfl rfl rfl
  · exact fun _ h => (nomatch h)

/-! ### A port changed -/

/-- A change of a port leaves every timer, but for its own four. -/
theorem expiries_withPort {p : Panel} {l : Link} {port : LinkPort} {t : Timer}
    (hgap : port.gapTimer = (p.lnk.ports.get l).gapTimer)
    (hpresence : port.presenceTimer = (p.lnk.ports.get l).presenceTimer)
    (hreply : port.reply.bind Reply.timer = (p.lnk.ports.get l).reply.bind Reply.timer ∨
      port.reply.bind Reply.timer = t)
    (hcut : port.cutOff.bind Reply.timer = (p.lnk.ports.get l).cutOff.bind Reply.timer ∨
      port.cutOff.bind Reply.timer = t) :
    ∀ e ∈ expiries, e.timer (p.withPort l port) = e.timer p ∨ e.timer (p.withPort l port) = t := by
  have hlink : ∀ k, ∀ e ∈ linkExpiries k,
      e.timer (p.withPort l port) = e.timer p ∨ e.timer (p.withPort l port) = t := by
    intro k
    simp only [linkExpiries, List.forall_mem_cons, Panel.withPort_lnk]
    by_cases hk : k = l
    · subst hk
      simp only [PerLink.get_set_self]
      exact ⟨.inl hgap, hreply, hcut, .inl hpresence, fun _ h => (nomatch h)⟩
    · simp only [PerLink.get_set_ne _ _ hk]
      exact ⟨.inl trivial, .inl trivial, .inl trivial, .inl trivial, fun _ h => (nomatch h)⟩
  simp only [expiries, List.forall_mem_append, List.forall_mem_cons, List.forall_mem_map]
  exact ⟨⟨⟨⟨⟨⟨⟨⟨⟨.inl rfl, .inl rfl, .inl rfl, .inl rfl, .inl rfl, .inl rfl, .inl rfl, .inl rfl, .inl rfl,
    fun _ h => (nomatch h)⟩, fun _ _ => .inl rfl⟩, .inl rfl, .inl rfl, fun _ h => (nomatch h)⟩, fun _ _ => .inl rfl⟩,
    .inl rfl, .inl rfl, .inl rfl, .inl rfl, .inl rfl, fun _ h => (nomatch h)⟩, hlink .front⟩, hlink .rear⟩,
    hlink .service⟩, .inl rfl, .inl rfl, .inl rfl, fun _ h => (nomatch h)⟩

/-! ### The step -/

theorem step_idle {s : State} (hq : s.pending = []) (hp : s.powered = true) :
    step s = .next { s with toPanel := expiries.foldl Expiry.take s.toPanel.countDown } := by
  rw [step_tick hq, tick, State.act_powered _ hp]
  rfl

/-- The idle step of a part with one timer due, which its own effect does not make due again. -/
theorem step_idle_of_one_due {s : State} {e : Expiry} (hq : s.pending = []) (hp : s.powered = true) (he : e ∈ expiries)
    (hdue : e.timer s.toPanel.countDown = some 0)
    (hcount : expiries.countP (fun e => e.timer s.toPanel.countDown == some 0) = 1)
    (hlater : ∀ e' ∈ expiries, e'.timer s.toPanel.countDown ≠ some 0 →
      e'.timer (e.effect s.toPanel.countDown) ≠ some 0) :
    step s = .next { s with toPanel := e.effect s.toPanel.countDown } := by
  rw [step_idle hq hp, foldl_take_of_one_due hdue he hcount hlater]

/-- A port's expiry that starts no timer, or starts one that is not due. -/
theorem step_idle_of_port {s : State} {e : Expiry} {l : Link} {port : LinkPort} {t : Timer} (hq : s.pending = [])
    (hp : s.powered = true) (he : e ∈ expiries) (hdue : e.timer s.toPanel.countDown = some 0)
    (hcount : expiries.countP (fun e => e.timer s.toPanel.countDown == some 0) = 1) (ht : t ≠ some 0)
    (heffect : e.effect s.toPanel.countDown = s.toPanel.countDown.withPort l port)
    (hport : ∀ e ∈ expiries, e.timer (s.toPanel.countDown.withPort l port) = e.timer s.toPanel.countDown ∨
      e.timer (s.toPanel.countDown.withPort l port) = t) :
    step s = .next { s with toPanel := s.toPanel.countDown.withPort l port } := by
  rw [← heffect]
  refine step_idle_of_one_due hq hp he hdue hcount fun e' he' hn => ?_
  rw [heffect]
  rcases hport e' he' with h | h <;> rw [h]
  · exact hn
  · exact ht

/-- What counting down leaves as it was. -/
theorem countDown_leaves (p : Panel) :
    (∀ ch, (p.countDown.pcu.input ch).edgeRecord = (p.pcu.input ch).edgeRecord ∧
      (p.countDown.pcu.input ch).gate = (p.pcu.input ch).gate) ∧
    p.countDown.adc.conversion.map (fun c => (c.channel, c.startedAt)) =
      p.adc.conversion.map (fun c => (c.channel, c.startedAt)) ∧
    (∀ sd, { p.countDown.adc.faults.get sd with persistence := none } =
      { p.adc.faults.get sd with persistence := none }) ∧
    p.countDown.wrc.entries.map (fun e => { e with resound := none }) =
      p.wrc.entries.map (fun e => { e with resound := none }) ∧
    (∀ sd, (p.countDown.wrc.players.get sd).state = (p.wrc.players.get sd).state) := by
  refine ⟨fun ch => by cases ch <;> exact ⟨rfl, rfl⟩, ?_, fun sd => by rw [countDown_fault], ?_, fun sd => ?_⟩
  · simp only [Panel.countDown, Adc.countDown, Option.map_map]
    rfl
  · simp only [Panel.countDown, Wrc.countDown, List.map_map]
    rfl
  · rw [countDown_player]

theorem countDown_port_leaves (p : Panel) (l : Link) :
    { p.countDown.lnk.ports.get l with gapTimer := none, presenceTimer := none, reply := none, cutOff := none } =
      { p.lnk.ports.get l with gapTimer := none, presenceTimer := none, reply := none, cutOff := none } ∧
    (p.countDown.lnk.ports.get l).reply.map (fun r => (r.chars, r.next)) =
      (p.lnk.ports.get l).reply.map (fun r => (r.chars, r.next)) ∧
    (p.countDown.lnk.ports.get l).cutOff.map (fun r => (r.chars, r.next)) =
      (p.lnk.ports.get l).cutOff.map (fun r => (r.chars, r.next)) := by
  rw [countDown_port]
  refine ⟨rfl, ?_, ?_⟩
  all_goals
    simp only [LinkPort.countDown, Option.map_map]
    rfl

/-- Settles O3: a microsecond counts every timer down and leaves the rest, and the fixed order of the expiries takes
the one timer that is due, whose command it is. -/
theorem anIdleStepIsOneMicrosecond : Obligations.AnIdleStepIsOneMicrosecond := by
  unfold Obligations.AnIdleStepIsOneMicrosecond
  rintro s p hq rfl
  obtain ⟨hinput, hconversion, hfault, hentries, hplayer⟩ := countDown_leaves s.toPanel
  refine ⟨fun hp => ?_, expiries_countDown s.toPanel,
    ⟨rfl, rfl, rfl, rfl, hinput, rfl, rfl, hconversion, hfault, rfl, rfl, rfl, hentries, hplayer, rfl, rfl, rfl, rfl,
      countDown_port_leaves s.toPanel⟩, fun hp hnone => ?_, fun hp c q hc hcount hexec hnone => ?_,
    fun hp hcount l r => ⟨fun hr hdue hnext => ?_, fun hr hdue => ?_⟩⟩
  · rw [step_tick hq, tick, State.act_unpowered _ hp]
  · rw [step_idle hq hp, foldl_take_of_none_due hnone]
  · obtain ⟨e, he, hdue, heffect⟩ := timedCommands_takenAs _ _ hc
    have hpc : ({ s with toPanel := s.toPanel.countDown } : State).powered = true := hp
    rw [exec_eq_effect hpc, ← heffect] at hexec
    obtain rfl : e.effect s.toPanel.countDown = q := congrArg State.toPanel (Host.Outcome.next.inj hexec)
    exact step_idle_of_one_due hq hp he hdue hcount fun e' he' _ => hnone e' he'
  · refine step_idle_of_port hq hp (linkExpiries_subset l _ (List.mem_of_getElem? (i := 1) rfl)) (t := some 1408)
      ?_ hcount (by decide) ?_ (expiries_withPort rfl rfl (.inr rfl) (.inl rfl))
    · exact (congrArg (fun o => Option.bind o Reply.timer) hr).trans hdue
    · show replyCharacterEnd l _ = _
      simp only [replyCharacterEnd, hr, if_pos hnext]
      rfl
  · refine step_idle_of_port hq hp (linkExpiries_subset l _ (List.mem_of_getElem? (i := 2) rfl)) (t := none)
      ?_ hcount (by decide) rfl (expiries_withPort rfl rfl (.inl rfl) (.inr rfl))
    exact (congrArg (fun o => Option.bind o Reply.timer) hr).trans hdue

end Sys2Proof.Machine
end

section
/-! PROOFS. How far an operation reaches, as the list of the blocks it may change. -/

namespace Sys2Proof.Machine

open Sys2Proof

/-! ### The relation -/

/-- The blocks of the part (00_scope, Block overview). -/
inductive Block where
  | pcu | sws | adc | dfa | trc | gdr | wrc | svm | chk | nvs | lnk | pmc
  deriving DecidableEq

/-- A block stands as it was. -/
def Block.Stands (p q : Panel) : Block → Prop
  | .pcu => q.pcu = p.pcu
  | .sws => q.sws = p.sws
  | .adc => q.adc = p.adc
  | .dfa => q.dfa = p.dfa
  | .trc => q.trc = p.trc
  | .gdr => q.gdr = p.gdr
  | .wrc => q.wrc = p.wrc
  | .svm => q.svm = p.svm
  | .chk => q.chk = p.chk
  | .nvs => q.nvs = p.nvs
  | .lnk => q.lnk = p.lnk
  | .pmc => q.pmc = p.pmc

/-- Nothing but the blocks `bs` changed. -/
structure Reaches (bs : List Block) (p q : Panel) : Prop where
  powered : q.powered = p.powered
  stands : ∀ b, b ∉ bs → b.Stands p q

theorem Block.Stands.trans {p q r : Panel} {b : Block} (h : b.Stands p q) (k : b.Stands q r) : b.Stands p r := by
  cases b <;> exact Eq.trans k h

theorem Block.stands_refl (p : Panel) (b : Block) : b.Stands p p := by
  cases b <;> exact Eq.refl _

theorem Reaches.refl (bs : List Block) (p : Panel) : Reaches bs p p := ⟨rfl, fun b _ => b.stands_refl p⟩

theorem Reaches.trans {bs cs : List Block} {p q r : Panel} (h : Reaches bs p q) (k : Reaches cs q r) :
    Reaches (bs ++ cs) p r :=
  ⟨k.powered.trans h.powered, fun b hb =>
    (h.stands b fun hin => hb (List.mem_append_left cs hin)).trans
      (k.stands b fun hin => hb (List.mem_append_right bs hin))⟩

theorem Reaches.mono {bs cs : List Block} {p q : Panel} (h : Reaches bs p q) (hsub : ∀ b ∈ bs, b ∈ cs) :
    Reaches cs p q :=
  ⟨h.powered, fun b hb => h.stands b fun hin => hb (hsub b hin)⟩

/-- Composition inside one list of blocks, the later operation first, as operations are written. -/
theorem Reaches.after {bs cs ds : List Block} {p q r : Panel} (k : Reaches cs q r) (h : Reaches bs p q)
    (hb : ∀ b ∈ bs, b ∈ ds := by decide) (hc : ∀ b ∈ cs, b ∈ ds := by decide) : Reaches ds p r :=
  (h.trans k).mono fun b hin => (List.mem_append.mp hin).elim (hb b) (hc b)

theorem Reaches.ite {c : Prop} [Decidable c] {bs : List Block} {p q r : Panel} (h : c → Reaches bs p q)
    (k : ¬c → Reaches bs p r) : Reaches bs p (if c then q else r) := by
  split
  · exact h ‹_›
  · exact k ‹_›

theorem Reaches.foldl {α : Type} {bs : List Block} {f : Panel → α → Panel} (h : ∀ p a, Reaches bs p (f p a)) :
    ∀ (l : List α) (p : Panel), Reaches bs p (l.foldl f p)
  | [], p => .refl bs p
  | a :: l, p => (Reaches.foldl h l (f p a)).after (h p a) (fun _ => id) (fun _ => id)

section
variable {bs : List Block} {p q : Panel} (h : Reaches bs p q)
include h

theorem Reaches.pcu (hb : Block.pcu ∉ bs := by decide) : q.pcu = p.pcu := h.stands .pcu hb
theorem Reaches.sws (hb : Block.sws ∉ bs := by decide) : q.sws = p.sws := h.stands .sws hb
theorem Reaches.adc (hb : Block.adc ∉ bs := by decide) : q.adc = p.adc := h.stands .adc hb
theorem Reaches.dfa (hb : Block.dfa ∉ bs := by decide) : q.dfa = p.dfa := h.stands .dfa hb
theorem Reaches.trc (hb : Block.trc ∉ bs := by decide) : q.trc = p.trc := h.stands .trc hb
theorem Reaches.gdr (hb : Block.gdr ∉ bs := by decide) : q.gdr = p.gdr := h.stands .gdr hb
theorem Reaches.wrc (hb : Block.wrc ∉ bs := by decide) : q.wrc = p.wrc := h.stands .wrc hb
theorem Reaches.svm (hb : Block.svm ∉ bs := by decide) : q.svm = p.svm := h.stands .svm hb
theorem Reaches.chk (hb : Block.chk ∉ bs := by decide) : q.chk = p.chk := h.stands .chk hb
theorem Reaches.nvs (hb : Block.nvs ∉ bs := by decide) : q.nvs = p.nvs := h.stands .nvs hb
theorem Reaches.lnk (hb : Block.lnk ∉ bs := by decide) : q.lnk = p.lnk := h.stands .lnk hb
theorem Reaches.pmc (hb : Block.pmc ∉ bs := by decide) : q.pmc = p.pmc := h.stands .pmc hb

end

/-- Two parts whose blocks are the same are the same. -/
theorem Panel.ext_blocks {p q : Panel} (hp : q.powered = p.powered) (h : ∀ b : Block, b.Stands p q) : q = p := by
  cases p
  cases q
  have hpcu := h .pcu
  have hsws := h .sws
  have hadc := h .adc
  have hdfa := h .dfa
  have htrc := h .trc
  have hgdr := h .gdr
  have hwrc := h .wrc
  have hsvm := h .svm
  have hchk := h .chk
  have hnvs := h .nvs
  have hlnk := h .lnk
  have hpmc := h .pmc
  simp only [Block.Stands] at *
  simp only [*]

/-- A part that differs from `p` in some blocks, which `r` takes from `q`, is `q`. -/
theorem Reaches.eq_of_reaches {bs : List Block} {p q r : Panel} (h : Reaches bs p q) (hr : Reaches bs p r)
    (hbs : ∀ b ∈ bs, b.Stands r q) : q = r := by
  refine Panel.ext_blocks (h.powered.trans hr.powered.symm) fun b => ?_
  by_cases hb : b ∈ bs
  · exact hbs b hb
  · have hq := h.stands b hb
    have hrb := hr.stands b hb
    cases b <;> exact Eq.trans hq (Eq.symm hrb)

/-! ### Updates of one block -/

theorem withPcu_reaches (x : Pcu) (p : Panel) : Reaches [.pcu] p (p.withPcu x) :=
  ⟨rfl, fun b hb => by cases b <;> simp_all [Block.Stands]⟩
theorem withSws_reaches (x : Sws) (p : Panel) : Reaches [.sws] p (p.withSws x) :=
  ⟨rfl, fun b hb => by cases b <;> simp_all [Block.Stands]⟩
theorem withAdc_reaches (x : Adc) (p : Panel) : Reaches [.adc] p (p.withAdc x) :=
  ⟨rfl, fun b hb => by cases b <;> simp_all [Block.Stands]⟩
theorem withDfa_reaches (x : Dfa) (p : Panel) : Reaches [.dfa] p (p.withDfa x) :=
  ⟨rfl, fun b hb => by cases b <;> simp_all [Block.Stands]⟩
theorem withTrc_reaches (x : Trc) (p : Panel) : Reaches [.trc] p (p.withTrc x) :=
  ⟨rfl, fun b hb => by cases b <;> simp_all [Block.Stands]⟩
theorem withGdr_reaches (x : Gdr) (p : Panel) : Reaches [.gdr] p (p.withGdr x) :=
  ⟨rfl, fun b hb => by cases b <;> simp_all [Block.Stands]⟩
theorem withWrc_reaches (x : Wrc) (p : Panel) : Reaches [.wrc] p (p.withWrc x) :=
  ⟨rfl, fun b hb => by cases b <;> simp_all [Block.Stands]⟩
theorem withSvm_reaches (x : Svm) (p : Panel) : Reaches [.svm] p (p.withSvm x) :=
  ⟨rfl, fun b hb => by cases b <;> simp_all [Block.Stands]⟩
theorem withChk_reaches (x : Chk) (p : Panel) : Reaches [.chk] p (p.withChk x) :=
  ⟨rfl, fun b hb => by cases b <;> simp_all [Block.Stands]⟩
theorem withNvs_reaches (x : Nvs) (p : Panel) : Reaches [.nvs] p (p.withNvs x) :=
  ⟨rfl, fun b hb => by cases b <;> simp_all [Block.Stands]⟩
theorem withPmc_reaches (x : Pmc) (p : Panel) : Reaches [.pmc] p (p.withPmc x) :=
  ⟨rfl, fun b hb => by cases b <;> simp_all [Block.Stands]⟩
theorem withPorts_reaches (x : PerLink LinkPort) (p : Panel) : Reaches [.lnk] p (p.withPorts x) :=
  ⟨rfl, fun b hb => by cases b <;> simp_all [Block.Stands]⟩

theorem withPort_reaches (l : Link) (port : LinkPort) (p : Panel) : Reaches [.lnk] p (p.withPort l port) :=
  withPorts_reaches _ p
theorem notifyAll_reaches (k : NoticeKind) (p : Panel) : Reaches [.lnk] p (notifyAll k p) := withPorts_reaches _ p
theorem notifyLink_reaches (k : NoticeKind) (l : Link) (p : Panel) : Reaches [.lnk] p (notifyLink k l p) :=
  withPort_reaches l _ p
theorem notifyOthers_reaches (k : NoticeKind) (l : Link) (p : Panel) : Reaches [.lnk] p (notifyOthers k l p) :=
  withPorts_reaches _ p

/-! ### The shared operations -/

theorem withWrcLnk_reaches (w : Wrc) (n : Lnk) (p : Panel) : Reaches [.wrc, .lnk] p { p with wrc := w, lnk := n } :=
  ⟨rfl, fun b hb => by cases b <;> simp_all [Block.Stands]⟩

theorem withNvsLnk_reaches (m : Nvs) (n : Lnk) (p : Panel) : Reaches [.nvs, .lnk] p { p with nvs := m, lnk := n } :=
  ⟨rfl, fun b hb => by cases b <;> simp_all [Block.Stands]⟩

theorem WarningsOnly.reaches {p q : Panel} (h : WarningsOnly p q) : Reaches [.wrc, .lnk] p q := by
  rw [h.1]
  exact withWrcLnk_reaches _ _ p

theorem QueueOnly.reaches {p q : Panel} (h : QueueOnly p q) : Reaches [.nvs, .lnk] p q := by
  rw [h.1]
  exact withNvsLnk_reaches _ _ p

theorem judgeWarnings_reaches (p : Panel) : Reaches [.wrc, .lnk] p (judgeWarnings p) := (judgeWarnings_only p).reaches

theorem settleLamps_reaches (p : Panel) : Reaches [.wrc] p (settleLamps p) := withWrc_reaches _ p

theorem raiseEvent_reaches (k : WarningKind) (p : Panel) : Reaches [.wrc, .lnk] p (raiseEvent k p) :=
  (raiseEvent_only k p).reaches

theorem queueJob_reaches (j : WriteJob) (p : Panel) : Reaches [.nvs, .lnk] p (queueJob j p) :=
  (queueJob_only j p).reaches

theorem queueUrgent_reaches (d : JobData) (p : Panel) : Reaches [.nvs, .lnk] p (queueUrgent d p) :=
  (queueUrgent_only d p).reaches

theorem queueInternal_reaches (d : JobData) (p : Panel) : Reaches [.nvs, .lnk] p (queueInternal d p) :=
  (queueInternal_only d p).reaches

theorem removeNormal_reaches (p : Panel) : Reaches [.nvs, .lnk] p (removeNormal p) := (removeNormal_only p).reaches

theorem evaluate_reaches (p : Panel) : Reaches [.svm, .wrc, .lnk] p (evaluate p) :=
  .ite (fun _ => .refl _ p) fun _ => (judgeWarnings_reaches _).after
    (Reaches.ite (bs := [.svm, .lnk]) (fun _ => (withSvm_reaches _ p).mono (by decide))
      fun _ => (notifyAll_reaches _ _).after (withSvm_reaches _ p))

theorem evaluateFirst_reaches (p : Panel) : Reaches [.svm, .wrc, .lnk] p (evaluateFirst p) :=
  (judgeWarnings_reaches _).after (withSvm_reaches _ p)

theorem rangeInputsChanged_reaches (p : Panel) : Reaches [.trc, .wrc, .lnk] p (rangeInputsChanged p) :=
  (judgeWarnings_reaches _).after
    (Reaches.ite (bs := [.trc]) (fun _ => withTrc_reaches _ p) fun _ => .refl _ p)

theorem judgeArrival_reaches (p : Panel) : Reaches [.trc, .wrc, .lnk] p (judgeArrival p) :=
  .ite (fun _ => (raiseEvent_reaches _ _).after ((notifyAll_reaches _ _).after (ds := [.trc, .lnk])
    (withTrc_reaches _ p))) fun _ => .refl _ p

theorem formFaultIndication_reaches (p : Panel) : Reaches [.chk, .wrc, .lnk] p (formFaultIndication p) :=
  (judgeWarnings_reaches _).after (withChk_reaches _ p)

theorem judgeFaultIndication_reaches (p : Panel) : Reaches [.chk, .wrc, .lnk] p (judgeFaultIndication p) :=
  .ite (fun _ => formFaultIndication_reaches p) fun _ => (judgeWarnings_reaches p).mono (by decide)

end Sys2Proof.Machine
end

section
/-! PROOFS. The write queue: what it holds after a job has joined it (R160 to R163), and the graded service items. -/

namespace Sys2Proof.Machine

open Sys2Proof

/-! ### The jobs held -/

/-- Some job, waiting or in flight, has a property. -/
def Nvs.Has (n : Nvs) (P : WriteJob → Prop) : Prop := ∃ j : WriteJob, (j ∈ n.queue ∨ n.inFlight = some j) ∧ P j

/-- A property of a job that does not look at its progress. -/
def Lasting (P : WriteJob → Prop) : Prop := ∀ (j : WriteJob) (k : Option Nat), P j → P { j with progress := k }

theorem Nvs.holds_iff (n : Nvs) (d : JobData) : n.Holds d ↔ n.Has (fun j => j.data = d) := Iff.rfl

theorem Nvs.holdsUrgent_iff (n : Nvs) (d : JobData) :
    n.HoldsUrgent d ↔ n.Has (fun j => j.data = d ∧ j.jobClass = .urgent) := Iff.rfl

theorem lasting_data (d : JobData) : Lasting (fun j => j.data = d) := fun _ _ h => h

theorem lasting_urgent (d : JobData) : Lasting (fun j => j.data = d ∧ j.jobClass = .urgent) := fun _ _ h => h

theorem Nvs.Has.begin {n : Nvs} {P : WriteJob → Prop} (hP : Lasting P) {j : WriteJob} {rest : List WriteJob}
    (h : P j ∨ ∃ x ∈ rest, P x) : (n.begin j rest).Has P := by
  rcases h with h | ⟨x, hx, h⟩
  · exact ⟨_, .inr rfl, hP j _ h⟩
  · exact ⟨x, .inl hx, h⟩

/-- Beginning the next job loses no job. -/
theorem Nvs.Has.beginNext {n : Nvs} {P : WriteJob → Prop} (hP : Lasting P) (h : n.Has P) : n.beginNext.Has P := by
  obtain ⟨x, hx, hPx⟩ := h
  unfold Nvs.beginNext
  split
  · exact ⟨x, hx, hPx⟩
  case h_2 hfree =>
    have hxq : x ∈ n.queue := hx.resolve_right fun he => by rw [hfree] at he; cases he
    split
    · split
      case h_1 j hj =>
        refine Nvs.Has.begin hP ?_
        obtain ⟨a, l₁, l₂, hnone, ha, hq, hrest⟩ := List.exists_of_eraseP (List.mem_of_find?_eq_some hj)
          (List.find?_some hj)
        have hja : j = a := by
          rw [hq, List.find?_append, List.find?_eq_none.mpr (fun y hy => by simpa using hnone y hy)] at hj
          simpa [ha] using hj.symm
        rw [hrest]
        rw [hq] at hxq
        rcases List.mem_append.mp hxq with h | h
        · exact .inr ⟨x, List.mem_append_left _ h, hPx⟩
        · rcases List.mem_cons.mp h with rfl | h
          · exact .inl (hja ▸ hPx)
          · exact .inr ⟨x, List.mem_append_right _ h, hPx⟩
      case h_2 => exact ⟨x, .inl hxq, hPx⟩
    · split
      case h_1 j rest hq =>
        refine Nvs.Has.begin hP ?_
        rw [hq] at hxq
        rcases List.mem_cons.mp hxq with rfl | h
        · exact .inl hPx
        · exact .inr ⟨x, h, hPx⟩
      case h_2 => exact ⟨x, .inl hxq, hPx⟩

/-! ### Joining -/

theorem jobClass_cases (c : JobClass) : c = .urgent ∨ c = .normal := by cases c <;> simp

theorem mem_insertByClass_iff {j x : WriteJob} {q : List WriteJob} : x ∈ insertByClass j q ↔ x = j ∨ x ∈ q := by
  refine ⟨mem_insertByClass, fun h => ?_⟩
  unfold insertByClass
  rcases jobClass_cases j.jobClass with hj | hj <;> rw [hj] <;> dsimp only
  · rcases h with rfl | h
    · simp
    · rcases jobClass_cases x.jobClass with hx | hx <;> simp [h, hx]
  · rcases h with rfl | h
    · simp
    · simp [h]

/-- A job that no waiting job includes joins as it is. -/
theorem Nvs.mem_join_self {n : Nvs} {j : WriteJob} (h : ∀ q ∈ n.queue, q.data.covers j.data = false) :
    j ∈ n.join j := by
  unfold Nvs.join
  dsimp only
  rw [if_neg]
  · exact mem_insertByClass_iff.mpr (.inl rfl)
  · simp only [List.any_eq_true, List.mem_filter, not_exists, not_and, Bool.not_eq_true]
    exact fun q hq => h q hq.1

/-- A waiting job that includes the new one takes its data, in its own class and place. -/
theorem Nvs.merge_mem_join {n : Nvs} {j q : WriteJob} (hq : q ∈ n.queue) (h : q.data.covers j.data = true) :
    WriteJob.merge n q j ∈ n.join j := by
  have hkept : q ∈ n.queue.filter fun q => q.data.covers j.data || !(j.data.covers q.data && q.progress.isNone) := by
    simp [hq, h]
  unfold Nvs.join
  dsimp only
  rw [if_pos (List.any_eq_true.mpr ⟨q, hkept, h⟩)]
  exact List.mem_map.mpr ⟨q, hkept, if_pos h⟩

/-- A waiting job that neither includes the new one nor is included in it stays as it is. -/
theorem Nvs.mem_join_of_apart {n : Nvs} {j q : WriteJob} (hq : q ∈ n.queue) (h : q.data.covers j.data = false)
    (h' : j.data.covers q.data = false) : q ∈ n.join j := by
  have hkept : q ∈ n.queue.filter fun q => q.data.covers j.data || !(j.data.covers q.data && q.progress.isNone) := by
    simp [hq, h']
  unfold Nvs.join
  dsimp only
  split
  · exact List.mem_map.mpr ⟨q, hkept, by simp [h]⟩
  · exact mem_insertByClass_iff.mpr (.inr hkept)

theorem removeNormal_nvs (p : Panel) :
    (removeNormal p).nvs = { p.nvs with queue := p.nvs.queue.filter (fun j => !j.removable) } := by
  unfold removeNormal notifyRemoved
  split <;> rfl

theorem purgeIfSupplyLow_of_released {p : Panel} (h : p.pmc.supplyLow = false) : purgeIfSupplyLow p = p := by
  simp [purgeIfSupplyLow, h]

/-- R163: a low supply takes the removable jobs from the queue, and nothing else from the store. -/
theorem purgeIfSupplyLow_keeps_job {p : Panel} {x : WriteJob} (hx : x ∈ p.nvs.queue)
    (h : p.pmc.supplyLow = false ∨ x.removable = false) : x ∈ (purgeIfSupplyLow p).nvs.queue := by
  unfold purgeIfSupplyLow
  split
  case isTrue hlow =>
    rw [removeNormal_nvs]
    refine List.mem_filter.mpr ⟨hx, ?_⟩
    rcases h with h | h
    · rw [hlow] at h
      cases h
    · simp [h]
  case isFalse => exact hx

theorem purgeIfSupplyLow_inFlight (p : Panel) : (purgeIfSupplyLow p).nvs.inFlight = p.nvs.inFlight := by
  unfold purgeIfSupplyLow
  split
  · rw [removeNormal_nvs]
  · rfl

/-- A job of the queue that the new job has joined is held, unless a low supply removes it. -/
theorem queueJob_has {P : WriteJob → Prop} (hP : Lasting P) {j x : WriteJob} {p : Panel} (hx : x ∈ p.nvs.join j)
    (hPx : P x) (h : p.pmc.supplyLow = false ∨ x.removable = false) : (queueJob j p).nvs.Has P :=
  Nvs.Has.beginNext hP ⟨x, .inl (purgeIfSupplyLow_keeps_job hx h), hPx⟩

/-- The job in flight stays in flight. -/
theorem queueJob_has_of_inFlight {P : WriteJob → Prop} (hP : Lasting P) {j x : WriteJob} {p : Panel}
    (hx : p.nvs.inFlight = some x) (hPx : P x) : (queueJob j p).nvs.Has P :=
  Nvs.Has.beginNext hP ⟨x, .inr ((purgeIfSupplyLow_inFlight _).trans hx), hPx⟩

/-- R160: a new job is held when no waiting job includes it. -/
theorem queueJob_holds {j : WriteJob} {p : Panel} (hlow : p.pmc.supplyLow = false)
    (h : ∀ q ∈ p.nvs.queue, q.data.covers j.data = false) : (queueJob j p).nvs.Holds j.data :=
  queueJob_has (lasting_data _) (Nvs.mem_join_self h) rfl (.inl hlow)

theorem queueJob_holdsUrgent {j : WriteJob} {p : Panel} (hj : j.jobClass = .urgent)
    (h : ∀ q ∈ p.nvs.queue, q.data.covers j.data = false) : (queueJob j p).nvs.HoldsUrgent j.data :=
  queueJob_has (lasting_urgent _) (Nvs.mem_join_self h) ⟨rfl, hj⟩ (.inr (by simp [WriteJob.removable, hj]))

/-! ### An URGENT job -/

/-- R161: an URGENT job finds room when the queue is not full or holds a job that may be removed. -/
def Nvs.HasRoom (n : Nvs) : Prop := n.jobCount < 8 ∨ ∃ j ∈ n.queue, j.removable = true

/-- `p'` is `p` with some of its removable jobs taken from the queue. -/
structure FewerJobs (p p' : Panel) : Prop where
  reaches : Reaches [.nvs, .lnk] p p'
  nvs : p'.nvs = { p.nvs with queue := p'.nvs.queue }
  fewer : ∀ j ∈ p'.nvs.queue, j ∈ p.nvs.queue
  kept : ∀ j ∈ p.nvs.queue, j.removable = false → j ∈ p'.nvs.queue

theorem FewerJobs.refl (p : Panel) : FewerJobs p p := ⟨.refl _ p, rfl, fun _ => id, fun _ h _ => h⟩

theorem mem_dropLastRemovable_of_kept {q : List WriteJob} {j : WriteJob} (hj : j ∈ q) (h : j.removable = false) :
    j ∈ dropLastRemovable q :=
  List.mem_reverse.mpr ((List.mem_eraseP_of_neg (by simp [h])).mpr (List.mem_reverse.mpr hj))

theorem FewerJobs.dropLast (r : WriteJob) (p : Panel) :
    FewerJobs p (notifyRemoved [r] (p.withNvs { p.nvs with queue := dropLastRemovable p.nvs.queue })) := by
  have hnvs : ∀ q : Panel, (notifyRemoved [r] q).nvs = q.nvs := fun q => by unfold notifyRemoved; split <;> rfl
  refine ⟨(notifyRemoved_only _ _).reaches.after (withNvs_reaches _ p), ?_, fun j hj => ?_, fun j hj h => ?_⟩
  · rw [hnvs]
    rfl
  · rw [hnvs] at hj
    exact List.mem_reverse.mp (List.mem_of_mem_eraseP (List.mem_reverse.mp hj))
  · rw [hnvs]
    exact mem_dropLastRemovable_of_kept hj h

/-- R161: an URGENT job joins, where the queue is full once the last removable job is out of it. -/
theorem queueUrgent_eq {p : Panel} (d : JobData) (h : p.nvs.HasRoom) :
    ∃ p', FewerJobs p p' ∧ queueUrgent d p = queueJob ⟨d, .urgent, .internal, none⟩ p' := by
  unfold queueUrgent
  dsimp only
  split
  case isTrue => exact ⟨p, .refl p, rfl⟩
  case isFalse hfull =>
    split
    case h_1 hnone =>
      exfalso
      rcases h with hroom | ⟨j, hj, hremovable⟩
      · have hslots := of_decide_eq_false (Bool.or_eq_false_iff.mp (Bool.eq_false_iff.mpr hfull)).2
        unfold Nvs.freeSlots at hslots
        omega
      · exact absurd hremovable (by simpa using List.find?_eq_none.mp hnone j (List.mem_reverse.mpr hj))
    case h_2 r hr => exact ⟨_, FewerJobs.dropLast r p, rfl⟩

/-- An URGENT job is held when no waiting job includes it. -/
theorem queueUrgent_holdsUrgent {p : Panel} {d : JobData} (hroom : p.nvs.HasRoom)
    (h : ∀ q ∈ p.nvs.queue, q.data.covers d = false) : (queueUrgent d p).nvs.HoldsUrgent d := by
  obtain ⟨p', hfewer, heq⟩ := queueUrgent_eq d hroom
  rw [heq]
  exact queueJob_holdsUrgent (j := ⟨d, .urgent, .internal, none⟩) rfl fun q hq => h q (hfewer.fewer q hq)

theorem covers_odometer {d : JobData} {v : Nat} (h : ∀ w, d ≠ .odometer w) : d.covers (.odometer v) = false := by
  cases d with
  | odometer w => exact absurd rfl (h w)
  | cells f ws => rfl

/-- R160: an odometer job merges with a waiting one, which is then of the new value. -/
theorem queueUrgent_odometer_merges {p : Panel} {j : WriteJob} (v : Nat) {w : Nat} (hj : j ∈ p.nvs.queue)
    (hdata : j.data = .odometer w) (hclass : j.jobClass = .urgent) :
    (queueUrgent (.odometer v) p).nvs.HoldsUrgent (.odometer v) := by
  have hcovers : j.data.covers (.odometer v) = true := by rw [hdata]; rfl
  have hany : (p.nvs.queue.any fun q => q.data.covers (.odometer v)) = true := List.any_eq_true.mpr ⟨j, hj, hcovers⟩
  unfold queueUrgent
  dsimp only
  rw [hany, Bool.true_or, if_pos rfl]
  refine queueJob_has (lasting_urgent _) (Nvs.merge_mem_join hj hcovers) ⟨?_, hclass⟩ (.inr ?_)
  · simp only [WriteJob.merge, hdata, JobData.mergeWith]
  · simp [WriteJob.removable, WriteJob.merge, hclass]

/-! ### The cells -/

theorem queueUrgent_cells (d : JobData) (p : Panel) : (queueUrgent d p).nvs.cells = p.nvs.cells :=
  (queueUrgent_only d p).cells

/-- What a job's joining leaves of the store. -/
theorem QueueOnly.nvs {p q : Panel} (h : QueueOnly p q) : q.nvs =
    { p.nvs with queue := q.nvs.queue, inFlight := q.nvs.inFlight, cellTimer := q.nvs.cellTimer } :=
  congrArg Panel.nvs h.1

/-! ### The graded items -/

theorem evaluatedItems_get (p : Panel) (i : SlotId) : (evaluatedItems p).get i =
    { p.svm.items.get i with state := itemState p.nvs.calibration (odoKm p) p.svm.dayCount (p.svm.items.get i) } :=
  PerSlot.get_map _ p.svm.items i

theorem evaluate_svm {p : Panel} (h : p.nvs.recoveryDone = true) :
    (evaluate p).svm = { p.svm with items := evaluatedItems p } := by
  unfold evaluate
  rw [if_neg (by simp [h])]
  refine (judgeWarnings_reaches _).svm.trans ?_
  dsimp only
  split <;> rfl

/-- R122: after an evaluation every item is graded at the odometer and the day that stand. -/
theorem evaluate_itemsGraded {p : Panel} (h : p.nvs.recoveryDone = true) : (evaluate p).itemsGraded := by
  intro i
  have hreach := evaluate_reaches p
  rw [evaluate_svm h, hreach.nvs, odoKm, hreach.dfa, evaluatedItems_get]
  rfl

theorem Panel.itemsGraded.congr {p q : Panel} (h : p.itemsGraded) (hs : q.svm = p.svm)
    (hc : q.nvs.calibration = p.nvs.calibration) (ho : q.dfa.odometer = p.dfa.odometer) : q.itemsGraded := by
  intro i
  have hi := h i
  unfold odoKm at hi ⊢
  rw [hs, hc, ho]
  exact hi

end Sys2Proof.Machine
end

section
/-! PROOFS. Pulses, distance and fuel: edges, distance units, gates, injector pulses, millilitres and the fuel
sample. -/

namespace Sys2Proof.Machine

open Sys2Proof

/-! ### Edges (R3 to R5, R11) -/

theorem edgeAccepted_of_spaced {ch : PulseChannel} {now : Micros} {i : PulseInput}
    (h : ∀ t, i.edgeRecord = some t → minSpacing ch ≤ elapsed t now) : edgeAccepted ch now i = true := by
  unfold edgeAccepted
  split
  · rfl
  · exact decide_eq_true (h _ ‹_›)

theorem edgeAccepted_of_close {ch : PulseChannel} {now t : Micros} {i : PulseInput} (ht : i.edgeRecord = some t)
    (h : elapsed t now < minSpacing ch) : edgeAccepted ch now i = false := by
  simp only [edgeAccepted, ht]
  exact decide_eq_false (Nat.not_le.mpr h)

theorem GateRecord.addEdge_eq (now : Micros) (g : GateRecord) : g.addEdge now =
    ⟨g.count + 1, if g.count = 0 then some now else g.firstEdge, some now, g.prevPeriod⟩ := by
  unfold GateRecord.addEdge
  split
  case isTrue h => rw [h]
  case isFalse => rfl

theorem PulseInput.accept_eq (ch : PulseChannel) (now : Micros) (i : PulseInput) : i.accept ch now =
    ⟨some now, ⟨i.gate.count + 1, if i.gate.count = 0 then some now else i.gate.firstEdge, some now,
      i.gate.prevPeriod⟩, some (quietLimit ch)⟩ := by
  rw [PulseInput.accept, GateRecord.addEdge_eq]
  rfl

theorem pulseEdge_of_close {ch : PulseChannel} {p : Panel} {t : Micros} (ht : (p.pcu.input ch).edgeRecord = some t)
    (h : elapsed t p.pcu.timebase < minSpacing ch) : pulseEdge ch p = p := by
  simp only [pulseEdge, edgeAccepted_of_close ht h, Bool.false_eq_true, if_false]

theorem pulseEdge_eng {p : Panel} (h : ∀ t, p.pcu.eng.edgeRecord = some t → 500 ≤ elapsed t p.pcu.timebase) :
    pulseEdge .eng p = p.withPcu { p.pcu with eng := p.pcu.eng.accept .eng p.pcu.timebase } := by
  simp only [pulseEdge, edgeAccepted_of_spaced (ch := .eng) (i := p.pcu.input .eng) h, if_true]
  rfl

/-- R4, R11: the Pulse Capture Unit after an accepted SPD edge. -/
def Pcu.afterSpd (u : Pcu) : Pcu :=
  { u with
    spd := u.spd.accept .spd u.timebase
    stationary := false, stationaryTime := 0, stationaryTimer := some 2000000, stationarySecondsTimer := none }

theorem pulseEdge_spd {p : Panel} (h : ∀ t, p.pcu.spd.edgeRecord = some t → 200 ≤ elapsed t p.pcu.timebase) :
    pulseEdge .spd p = speedPulse (p.withPcu p.pcu.afterSpd) := by
  simp only [pulseEdge, edgeAccepted_of_spaced (ch := .spd) (i := p.pcu.input .spd) h, if_true]
  rfl

/-- Settles O11: the spacing decides; an ENG edge reaches its record alone, and an SPD edge short of a distance unit
adds its 100 to Rd. -/
theorem anEdgeIsAcceptedOrRejected : Obligations.AnEdgeIsAcceptedOrRejected := by
  unfold Obligations.AnEdgeIsAcceptedOrRejected
  intro s hp
  refine ⟨fun ch t ht hclose => ?_, fun hspaced => ?_, fun hspaced hshort => ?_⟩
  · refine exec_eq_self (fun _ _ hc => (nomatch hc)) (pulseEdge_of_close ht ?_)
    cases ch <;> exact hclose
  · rw [exec_eq_effect hp]
    simp only [commandEffect, pulseEdge_eng hspaced, PulseInput.accept_eq]
    rfl
  · rw [exec_eq_effect hp]
    simp only [commandEffect, pulseEdge_spd hspaced, speedPulse, Pcu.afterSpd, PulseInput.accept_eq]
    exact congrArg (fun q => Host.Outcome.next { s with toPanel := q }) (if_pos hshort)

/-! ### Distance units (R23, R24, R47) -/

theorem TripRecord.add_eq (du ml seconds : Nat) (r : TripRecord) : r.add du ml seconds =
    if r.held then r
    else { r with counts := ⟨min 9999999 (r.counts.distance + du), min 9999999 (r.counts.fuel + ml),
      min 3599999 (r.counts.runTime + seconds)⟩ } := by
  simp only [TripRecord.add, clampAt_eq_min, countMax, runTimeMax]

theorem Slot.add_eq (du ml : Nat) (s : Slot) : s.add du ml = ⟨min 65535 (s.du + du), min 65535 (s.ml + ml)⟩ := by
  simp only [Slot.add, clampAt_eq_min]

theorem PerTrip.map_eq_of {α β : Type} (f : α → β) (r : PerTrip α) :
    PerTrip.map f r = PerTrip.of fun i => f (r.get i) :=
  rfl

theorem Trc.count_eq (du ml : Nat) (t : Trc) : t.count du ml =
    { t with
      trips := PerTrip.of fun i =>
        if (t.trips.get i).held then t.trips.get i
        else { t.trips.get i with counts :=
          ⟨min 9999999 ((t.trips.get i).counts.distance + du), min 9999999 ((t.trips.get i).counts.fuel + ml),
           min 3599999 (t.trips.get i).counts.runTime⟩ }
      current := ⟨min 65535 (t.current.du + du), min 65535 (t.current.ml + ml)⟩ } := by
  simp only [Trc.count, PerTrip.map_eq_of, TripRecord.add_eq, Slot.add_eq, Nat.add_zero]

/-- R24: the odometer and its tenths below the odometer's limit. -/
theorem Dfa.advance_below {d : Dfa} (h : d.odometer < 9999999) : d.advance =
    if d.odoSubCount + 1 < 10 then { d with odoSubCount := d.odoSubCount + 1 }
    else { d with odoSubCount := 0, odometer := d.odometer + 1 } :=
  if_neg (Nat.not_le.mpr h)

/-- R24: at the odometer's limit the odometer stands and the tenths stop at 9. -/
theorem Dfa.advance_at_limit {d : Dfa} (h : d.odometer = 9999999) :
    d.advance = { d with odoSubCount := min 9 (d.odoSubCount + 1) } := by
  rw [Dfa.advance, if_pos (show odometerMax ≤ d.odometer from h.ge)]
  split
  · rw [Nat.min_eq_right (by omega)]
  · rw [Nat.min_eq_left (by omega)]

/-- R23: the state at a distance unit, before it is counted: Rd keeps what is left of the pulse. -/
def Panel.atUnit (p : Panel) : Panel :=
  (p.withPcu p.pcu.afterSpd).withDfa { p.dfa with rd := p.dfa.rd + 100 - p.nvs.calibration.pulsesPerKm }

theorem pulseEdge_spd_unit {p : Panel} (hspaced : ∀ t, p.pcu.spd.edgeRecord = some t → 200 ≤ elapsed t p.pcu.timebase)
    (h : p.nvs.calibration.pulsesPerKm ≤ p.dfa.rd + 100) : pulseEdge .spd p = distanceUnit p.atUnit := by
  rw [pulseEdge_spd hspaced]
  exact if_neg (Nat.not_lt.mpr h)

/-- A distance unit that crosses no whole kilometre has the range delivered afresh on the new counts. -/
theorem distanceUnit_of_advance {p : Panel} {d : Dfa} (hd : p.dfa.advance = d)
    (hcross : ¬(d.odometer ≠ p.dfa.odometer ∧ d.odometer % 10 = 0)) :
    distanceUnit p = rangeInputsChanged ((p.withTrc (p.trc.count 1 0)).withDfa d) := by
  subst hd
  exact congrArg rangeInputsChanged (if_neg hcross)

/-- Settles O12: the three ways the odometer advances, none of which crosses a whole kilometre; the range is then
judged on the new counts. -/
theorem aDistanceUnitIsCounted : Obligations.ADistanceUnitIsCounted := by
  unfold Obligations.ADistanceUnitIsCounted
  intro s hp hspaced hunit odometer sub hcase
  have hadvance : s.toPanel.atUnit.dfa.advance =
      { s.dfa with
        rd := s.dfa.rd + 100 - s.nvs.calibration.pulsesPerKm, odometer := odometer, odoSubCount := sub } ∧
        ¬(odometer ≠ s.dfa.odometer ∧ odometer % 10 = 0) := by
    rcases hcase with ⟨hlt, hsub, rfl, rfl⟩ | ⟨hlt, hsub, rfl, hne, rfl⟩ | ⟨hmax, rfl, rfl⟩
    · exact ⟨(Dfa.advance_below (d := s.toPanel.atUnit.dfa) hlt).trans (if_pos (Nat.add_lt_add_right hsub 1)),
        fun h => h.1 rfl⟩
    · exact ⟨(Dfa.advance_below (d := s.toPanel.atUnit.dfa) hlt).trans
        (if_neg (Nat.not_lt.mpr (Nat.add_le_add_right hsub.ge 1))), fun h => hne h.2⟩
    · exact ⟨Dfa.advance_at_limit (d := s.toPanel.atUnit.dfa) hmax, fun h => h.1 rfl⟩
  obtain ⟨hd, hcross⟩ := hadvance
  refine ⟨_, exec_eq_effect hp, ?_⟩
  rw [commandEffect, pulseEdge_spd_unit hspaced hunit, distanceUnit_of_advance hd hcross,
    show s.toPanel.atUnit.trc = s.trc from rfl, Trc.count_eq]
  simp only [Nat.add_zero]
  exact rangeInputsChanged_reach _

/-! ### A whole-kilometre crossing (R24, R26, R67) -/

theorem judgeArrival_armed (p : Panel) : (judgeArrival p).trc = { p.trc with
    arrivalArmed := p.trc.arrivalArmed && !arrivalDue p } := by
  unfold judgeArrival
  split
  case isTrue h =>
    rw [(raiseEvent_reaches _ _).trc, h]
    simp
  case isFalse h =>
    rw [Bool.eq_false_iff.mpr h]
    simp

theorem arrivalDue_iff (p : Panel) : arrivalDue p = true ↔ p.pmc.mode = .run ∧ p.trc.arrivalArmed = true ∧
    ∃ km, p.trc.destinationKm = some km ∧ km * 100 ≤ p.trc.trips.journey.counts.distance + 100 := by
  simp only [arrivalDue, Bool.and_eq_true, beq_iff_eq, holdsOf_iff, remainingDistance, Option.map_eq_some_iff,
    decide_eq_true_eq, and_assoc]
  refine and_congr_right fun _ => and_congr_right fun _ => ⟨?_, ?_⟩
  · rintro ⟨_, ⟨km, hkm, rfl⟩, h⟩
    exact ⟨km, hkm, by omega⟩
  · rintro ⟨km, hkm, h⟩
    exact ⟨_, ⟨km, hkm, rfl⟩, by omega⟩

theorem rangeInputsChanged_trc (p : Panel) :
    (rangeInputsChanged p).trc = { p.trc with lastRange := (rangeInputsChanged p).trc.lastRange } := by
  rw [rangeInputsChanged, (judgeWarnings_reaches _).trc]
  split <;> rfl

theorem wholeKmCrossing_reaches (p : Panel) : Reaches [.nvs, .svm, .trc, .wrc, .lnk] p (wholeKmCrossing p) :=
  (judgeArrival_reaches _).after ((evaluate_reaches _).after (ds := [.nvs, .svm, .wrc, .lnk])
    (queueUrgent_reaches _ p))

theorem wholeKmCrossing_nvs (p : Panel) :
    (wholeKmCrossing p).nvs = (queueUrgent (.odometer p.dfa.odometer) p).nvs := by
  rw [wholeKmCrossing, (judgeArrival_reaches _).nvs, (evaluate_reaches _).nvs]

theorem wholeKmCrossing_itemsGraded {p : Panel} (h : p.nvs.recoveryDone = true) : (wholeKmCrossing p).itemsGraded := by
  have hdone : (queueUrgent (.odometer p.dfa.odometer) p).nvs.recoveryDone = true := by
    rw [(queueUrgent_only _ p).nvs]
    exact h
  have harrival := judgeArrival_reaches (evaluate (queueUrgent (.odometer p.dfa.odometer) p))
  exact (evaluate_itemsGraded hdone).congr harrival.svm (congrArg Nvs.calibration harrival.nvs)
    (congrArg Dfa.odometer harrival.dfa)

theorem wholeKmCrossing_trc (p : Panel) : (wholeKmCrossing p).trc = { p.trc with
    arrivalArmed := p.trc.arrivalArmed && !arrivalDue p } := by
  have hbefore : Reaches [.nvs, .svm, .wrc, .lnk] p (evaluate (queueUrgent (.odometer p.dfa.odometer) p)) :=
    (evaluate_reaches _).after (queueUrgent_reaches _ p)
  have hdue : arrivalDue (evaluate (queueUrgent (.odometer p.dfa.odometer) p)) = arrivalDue p := by
    simp only [arrivalDue, hbefore.pmc, hbefore.trc]
  rw [wholeKmCrossing, judgeArrival_armed, hbefore.trc, hdue]

theorem distanceUnit_crossing {p : Panel} (hlt : p.dfa.odometer < 9999999) (hsub : p.dfa.odoSubCount = 9)
    (hkm : p.dfa.odometer % 10 = 9) : distanceUnit p = rangeInputsChanged (wholeKmCrossing
      ((p.withTrc (p.trc.count 1 0)).withDfa { p.dfa with odoSubCount := 0, odometer := p.dfa.odometer + 1 })) := by
  have hd : p.dfa.advance = { p.dfa with odoSubCount := 0, odometer := p.dfa.odometer + 1 } := by
    rw [Dfa.advance_below hlt, if_neg (by omega)]
  unfold distanceUnit
  dsimp only
  rw [hd]
  exact congrArg rangeInputsChanged (if_pos ⟨Nat.succ_ne_self _, by simp only [Panel.withDfa_dfa]; omega⟩)

/-- Settles O13: the crossing queues the odometer's job, has the items graded and the arrival judged; the range, judged
last, reaches the Trip Computer's range and the warnings alone. -/
theorem aWholeKilometreCrossing : Obligations.AWholeKilometreCrossing := by
  unfold Obligations.AWholeKilometreCrossing
  intro s hp hspaced hunit hlt hsub hkm hdone
  refine ⟨_, exec_eq_effect hp, ?_⟩
  rw [commandEffect, pulseEdge_spd_unit hspaced hunit,
    distanceUnit_crossing (p := s.toPanel.atUnit) hlt hsub hkm]
  generalize hat : Panel.withDfa _ (Panel.withTrc _ s.toPanel.atUnit) = at_
  have hreach : Reaches [.pcu, .trc, .dfa] s.toPanel at_ := by
    rw [← hat]
    exact (withDfa_reaches _ _).after ((withTrc_reaches _ _).after (ds := [.pcu, .trc, .dfa])
      ((withDfa_reaches _ _).after (ds := [.pcu, .dfa]) (withPcu_reaches _ _)))
  have hdfa : at_.dfa = { s.dfa with
      rd := s.dfa.rd + 100 - s.nvs.calibration.pulsesPerKm, odometer := s.dfa.odometer + 1, odoSubCount := 0 } := by
    rw [← hat]
    rfl
  have htrc : at_.trc = s.trc.count 1 0 := by
    rw [← hat]
    rfl
  have hcross := wholeKmCrossing_reaches at_
  have hrange := rangeInputsChanged_reaches (wholeKmCrossing at_)
  have hnvs : (rangeInputsChanged (wholeKmCrossing at_)).nvs =
      (queueUrgent (.odometer (s.dfa.odometer + 1)) at_).nvs := by
    rw [hrange.nvs, wholeKmCrossing_nvs, hdfa]
  refine ⟨by rw [hrange.dfa, hcross.dfa, hdfa], fun hroom hnone => ?_, ?_, ?_, ?_, ?_, ?_, ?_, ?_, ?_, ?_⟩
  · rw [hnvs]
    refine queueUrgent_holdsUrgent ?_ fun q hq => covers_odometer (hnone q ?_)
    · rw [hreach.nvs]
      exact hroom
    · rw [hreach.nvs] at hq
      exact hq
  · rintro ⟨j, hj, hclass, v, hdata⟩
    rw [hnvs]
    exact queueUrgent_odometer_merges _ (hreach.nvs ▸ hj) hdata hclass
  · rw [hnvs, queueUrgent_cells, hreach.nvs]
  · have hgraded := wholeKmCrossing_itemsGraded (p := at_) (hreach.nvs ▸ hdone)
    exact hgraded.congr hrange.svm (congrArg Nvs.calibration hrange.nvs) (congrArg Dfa.odometer hrange.dfa)
  · have harmed : (rangeInputsChanged (wholeKmCrossing at_)).trc.arrivalArmed =
        (s.trc.arrivalArmed && !arrivalDue at_) := by
      rw [rangeInputsChanged_trc, wholeKmCrossing_trc, htrc]
      rfl
    have htrips : (rangeInputsChanged (wholeKmCrossing at_)).trc.trips = (s.trc.count 1 0).trips := by
      rw [rangeInputsChanged_trc, wholeKmCrossing_trc, htrc]
    have hdue := arrivalDue_iff at_
    rw [hreach.pmc, htrc] at hdue
    rw [harmed, htrips, Bool.and_eq_true, Bool.not_eq_true', ← Bool.not_eq_true, hdue]
    refine and_congr_right fun ha => not_congr ⟨fun ⟨hrun, _, hkm⟩ => ⟨hrun, hkm⟩, fun ⟨hrun, hkm⟩ => ⟨hrun, ha, hkm⟩⟩
  · rw [hrange.adc, hcross.adc, hreach.adc]
  · rw [hrange.gdr, hcross.gdr, hreach.gdr]
  · rw [hrange.chk, hcross.chk, hreach.chk]
  · rw [hrange.pmc, hcross.pmc, hreach.pmc]
  · rw [hrange.sws, hcross.sws, hreach.sws]

end Sys2Proof.Machine
end

section
/-! PROOFS. The gates, the injector's pulses, the millilitres and the fuel sample. -/

namespace Sys2Proof.Machine

open Sys2Proof

/-! ### The gates (R6 to R10) -/

theorem gateResult_spanned {now : Micros} {g : GateRecord} {a b : Micros} (h : 2 ≤ g.count)
    (ha : g.firstEdge = some a) (hb : g.lastEdge = some b) :
    gateResult now g = (some (elapsed a b / (g.count - 1)), some (elapsed a b / (g.count - 1))) := by
  simp only [gateResult, h, ha, hb, decide_true]

theorem gateResult_carried {now : Micros} {g : GateRecord} {prev : Nat} {b : Micros} (h : g.count < 2)
    (hp : g.prevPeriod = some prev) (hb : g.lastEdge = some b) :
    gateResult now g = (some (max prev (elapsed b now)), some prev) := by
  simp only [gateResult, hp, hb, decide_eq_false (Nat.not_le.mpr h)]

theorem gateResult_none {now : Micros} {g : GateRecord} (h : g.count < 2) (hp : g.prevPeriod = none) :
    gateResult now g = (none, none) := by
  simp only [gateResult, hp, decide_eq_false (Nat.not_le.mpr h)]

theorem gateResult_case (now : Micros) (g : GateRecord) :
    GateCase now g (gateResult now g).1 (gateResult now g).2 := by
  refine ⟨fun h a b ha hb => ?_, fun h prev b hp hb => ?_, fun h hp => ?_⟩
  · rw [gateResult_spanned h ha hb]
    exact ⟨rfl, rfl⟩
  · rw [gateResult_carried h hp hb]
    exact ⟨rfl, rfl⟩
  · rw [gateResult_none h hp]
    exact ⟨rfl, rfl⟩

theorem speedOf_eq (k : Nat) (period : Option Nat) : speedOf k period =
    match period with
    | none => 0
    | some p => min 3000 (roundDiv 36000000000 (p * k)) := by
  cases period with
  | none => rfl
  | some p => exact clampAt_eq_min _ _

theorem engineOf_eq (k : Nat) (period : Option Nat) : engineOf k period =
    match period with
    | none => 0
    | some p => min 9000 (roundDiv 60000000 (p * k)) := by
  cases period with
  | none => rfl
  | some p => exact clampAt_eq_min _ _

/-- R10: the engine is running from 300 min⁻¹, and its run time starts when it begins to. -/
theorem Pcu.judgeEngine_eq (u : Pcu) : u.judgeEngine = { u with
    engineRunning := decide (300 ≤ u.engineN)
    engineRunTime := if 300 ≤ u.engineN ∧ u.engineRunning = true then u.engineRunTime else 0
    engineSecondsTimer :=
      if 300 ≤ u.engineN then (if u.engineRunning then u.engineSecondsTimer else some 1000000) else none } := by
  unfold Pcu.judgeEngine
  split
  case isTrue hn =>
    cases hr : u.engineRunning
    case false => simp [hn, Timer.start, oneSecond]
    case true => simp [hn, ← hr]
  case isFalse hn => simp [hn]

/-- Settles O14: each gate gives its period by R6 and R7, the speeds are formed from them, and the engine and the
warnings are judged on the new speeds. -/
theorem aGateExpirySetsTheSpeeds : Obligations.AGateExpirySetsTheSpeeds := by
  unfold Obligations.AGateExpirySetsTheSpeeds
  intro s hp htimer _
  refine ⟨_, _, _, _, _, gateResult_case _ _, gateResult_case _ _, exec_eq_effect hp, _, _, rfl, rfl, ?_⟩
  rw [commandEffect, gateExpiry, if_pos htimer, Pcu.closeGates, Pcu.judgeEngine_eq]
  simp only [speedOf_eq, engineOf_eq]
  exact judgeWarnings_judged _

/-! ### Injector pulses (R12, R32) and millilitres (R33 to R35) -/

theorem OpenPulse.width_eq (now : Micros) (o : OpenPulse) :
    o.width now = if o.long then 25000 else min 25000 (elapsed o.openedAt now) := by
  rw [OpenPulse.width, clampAt_eq_min]
  rfl

/-- R12, R32: the close of an open pulse of the width `w` counts its whole millilitres and keeps the rest. -/
theorem injectorClose_of_open {p : Panel} {o : OpenPulse} {w n rest : Nat} (ho : p.pcu.openPulse = some o)
    (hw : w = if o.long then 25000 else min 25000 (elapsed o.openedAt p.pcu.timebase))
    (hrest : rest < p.nvs.calibration.injectorUsPerMl)
    (h : p.dfa.rf + (w - p.nvs.calibration.injectorDeadTime) * p.nvs.calibration.injectorsPerPulse =
      n * p.nvs.calibration.injectorUsPerMl + rest) :
    injectorClose p = millilitres n
      ((p.withPcu { p.pcu with openPulse := none, longPulseTimer := none }).withDfa { p.dfa with rf := rest }) := by
  have hpos : 0 < p.nvs.calibration.injectorUsPerMl := Nat.zero_lt_of_lt hrest
  have htotal : p.dfa.rf + effectiveOpenTime p.nvs.calibration w = p.nvs.calibration.injectorUsPerMl * n + rest := by
    rw [Nat.mul_comm]
    exact h
  rw [injectorClose, ho]
  dsimp only
  rw [OpenPulse.width_eq, ← hw, injectorCompletion]
  simp only [Panel.withPcu_dfa, Panel.withPcu_nvs, htotal, Nat.mul_add_mod, Nat.mod_eq_of_lt hrest,
    Nat.mul_add_div hpos, Nat.div_eq_of_lt hrest, Nat.add_zero]

theorem millilitres_pos {n : Nat} (h : 0 < n) (p : Panel) :
    millilitres n p = rangeInputsChanged ((p.withTrc (p.trc.count 0 n)).withDfa (p.dfa.burn n)) :=
  if_neg h.ne'

/-- Settles O16: a pulse short of a millilitre is the division with quotient 0. -/
theorem theInjectorPulseIsMeasured : Obligations.TheInjectorPulseIsMeasured := by
  unfold Obligations.TheInjectorPulseIsMeasured
  intro s hp
  refine ⟨exec_eq_effect hp, fun o ho htimer => ?_, fun o w ho hw hshort => ?_⟩
  · rw [exec_eq_effect hp, commandEffect, longPulseExpiry, if_pos htimer, ho]
    rfl
  · have hdiv : ∀ total k : Nat, total = 0 * k + total := fun total k => by rw [Nat.zero_mul, Nat.zero_add]
    rw [exec_eq_effect hp, commandEffect, injectorClose_of_open ho hw hshort (hdiv _ _)]
    rfl

/-- Settles O17: the pulse is the division with quotient `n`, and its millilitres are counted as one whole. -/
theorem millilitresAreCounted : Obligations.MillilitresAreCounted := by
  unfold Obligations.MillilitresAreCounted
  intro s o w n rest hp ho hw hn hrest hdiv
  refine ⟨_, exec_eq_effect hp, ?_⟩
  rw [commandEffect, injectorClose_of_open ho hw hrest hdiv, millilitres_pos hn, Trc.count_eq]
  simp only [Nat.add_zero]
  exact rangeInputsChanged_reach _

/-! ### The fuel sample (R37 to R40) -/

theorem senderValue_none {p : Panel} (h : p.adc.faults.fuel.flag = true ∨ p.adc.fuelLevel = none) :
    senderValue p = none := by
  unfold senderValue
  split
  case isTrue => rfl
  case isFalse hf =>
    rcases h with h | h
    · exact absurd h hf
    · rw [h]
      rfl

theorem senderValue_some {p : Panel} {level : Nat} (hf : p.adc.faults.fuel.flag = false)
    (hl : p.adc.fuelLevel = some level) : senderValue p = some (min p.nvs.calibration.tankCapacity level) := by
  rw [senderValue, if_neg (show ¬senderFault p .fuel = true from ne_true_of_eq_false hf), hl, Option.map_some,
    clampAt_eq_min]

/-- The state at a fuel sample, its timer started again. -/
def Panel.atFuelSample (p : Panel) : Panel := p.withDfa { p.dfa with fuelSampleTimer := some 2000000 }

@[simp] theorem Panel.atFuelSample_pcu (p : Panel) : p.atFuelSample.pcu = p.pcu := rfl

theorem fuelSampleExpiry_of_running {p : Panel} (h : p.dfa.fuelSampleTimer.isSome = true) :
    fuelSampleExpiry p = fuelSample p.atFuelSample := if_pos h

theorem fuelSample_without_value {p : Panel} (h : senderValue p = none) : fuelSample p = p := by
  rw [fuelSample, h]

theorem fuelSample_first {p : Panel} {S : Nat} (h : senderValue p = some S) (he : p.dfa.estimate = none) :
    fuelSample p = rangeInputsChanged (p.withDfa { p.dfa with estimate := some S, fuelSubCount := 0 }) := by
  rw [fuelSample, h]
  dsimp only
  rw [he]

theorem fuelSample_next {p : Panel} {S e : Nat} (h : senderValue p = some S) (he : p.dfa.estimate = some e) :
    fuelSample p =
      if 10 ≤ p.pcu.stationaryTime ∧ e + 50 ≤ S then
        rangeInputsChanged (resetTank (p.withDfa { p.dfa with estimate := some S, fuelSubCount := 0 }))
      else if e + 30 ≤ S then rangeInputsChanged (p.withDfa { p.dfa with estimate := some (e + 1) })
      else if S + 30 ≤ e then rangeInputsChanged (p.withDfa { p.dfa with estimate := some (e - 1) })
      else p := by
  rw [fuelSample, h]
  dsimp only
  rw [he]

/-- Settles O18: the cases of R37 to R40 in their order. -/
theorem aFuelSample : Obligations.AFuelSample := by
  unfold Obligations.AFuelSample
  intro s hp htimer
  have heffect : exec .fuelSampleExpiry s = .next { s with toPanel := fuelSample s.toPanel.atFuelSample } := by
    rw [exec_eq_effect hp, commandEffect, fuelSampleExpiry_of_running htimer]
  refine ⟨fun hnone => ?_, fun level S hf hl hS => ⟨fun he => ⟨_, heffect, ?_⟩, fun e he => ?_⟩⟩
  · rw [heffect, fuelSample_without_value (p := s.toPanel.atFuelSample) (senderValue_none hnone)]
    rfl
  · rw [fuelSample_first (p := s.toPanel.atFuelSample) (hS ▸ senderValue_some hf hl) he]
    exact rangeInputsChanged_reach _
  · have hvalue : senderValue s.toPanel.atFuelSample = some S := hS ▸ senderValue_some hf hl
    have hnext := fuelSample_next (p := s.toPanel.atFuelSample) hvalue he
    rw [Panel.atFuelSample_pcu] at hnext
    refine ⟨fun hstill hrise => ⟨_, heffect, ?_⟩, fun hno hrise => ⟨_, heffect, ?_⟩, fun hfall => ⟨_, heffect, ?_⟩,
      fun hlow hhigh => ?_⟩
    · rw [hnext, if_pos ⟨hstill, hrise⟩]
      exact rangeInputsChanged_reach _
    · rw [hnext, if_neg hno, if_pos hrise]
      exact rangeInputsChanged_reach _
    · rw [hnext, if_neg (by omega), if_neg (by omega), if_pos hfall]
      exact rangeInputsChanged_reach _
    · rw [heffect, hnext, if_neg (by omega), if_neg (by omega), if_neg (by omega)]
      rfl

end Sys2Proof.Machine
end

section
/-! PROOFS. The converter: the channels' readings, the senders' faults and the fault indication. -/

namespace Sys2Proof.Machine

open Sys2Proof

/-! ### A sender's fault record (R18 to R20) -/

theorem outOfRange_eq_true {r : Byte} (h : r.toNat ≤ 3 ∨ 252 ≤ r.toNat) : outOfRange r = true := by
  simp only [outOfRange, Bool.or_eq_true, decide_eq_true_eq]
  exact h

theorem outOfRange_eq_false {r : Byte} (hlo : 4 ≤ r.toNat) (hhi : r.toNat ≤ 251) : outOfRange r = false := by
  simp only [outOfRange, Bool.or_eq_false_iff, decide_eq_false_iff_not]
  omega

/-- R18 to R20: the five ways a reading meets a sender's fault record. -/
theorem SenderFault.take_eq {f g : SenderFault} {r : Byte} {converted : Bool}
    (h : f.flag = false ∧ 4 ≤ r.toNat ∧ r.toNat ≤ 251 ∧ g = { f with persistence := none } ∧ converted = true ∨
      f.flag = false ∧ (r.toNat ≤ 3 ∨ 252 ≤ r.toNat) ∧
        g = { f with persistence := some (f.persistence.getD 2000000) } ∧ converted = false ∨
      f.flag = true ∧ (r.toNat ≤ 3 ∨ 252 ≤ r.toNat) ∧ g = { f with inRangeCount := 0 } ∧ converted = false ∨
      f.flag = true ∧ 4 ≤ r.toNat ∧ r.toNat ≤ 251 ∧ f.inRangeCount < 49 ∧
        g = { f with inRangeCount := f.inRangeCount + 1 } ∧ converted = false ∨
      f.flag = true ∧ 4 ≤ r.toNat ∧ r.toNat ≤ 251 ∧ 49 ≤ f.inRangeCount ∧
        g = { f with flag := false, inRangeCount := 0 } ∧ converted = true) :
    f.take r = (g, converted) := by
  unfold SenderFault.take
  rcases h with ⟨hf, hlo, hhi, rfl, rfl⟩ | ⟨hf, hout, rfl, rfl⟩ | ⟨hf, hout, rfl, rfl⟩ | ⟨hf, hlo, hhi, hc, rfl, rfl⟩ |
    ⟨hf, hlo, hhi, hc, rfl, rfl⟩
  · simp only [hf, outOfRange_eq_false hlo hhi, Bool.false_eq_true, if_false]
  · simp only [hf, outOfRange_eq_true hout, Bool.false_eq_true, if_false, if_true]
    rfl
  · simp only [hf, outOfRange_eq_true hout, if_true]
  · simp only [hf, outOfRange_eq_false hlo hhi, Bool.false_eq_true, if_false, if_true]
    exact if_neg (by omega)
  · simp only [hf, outOfRange_eq_false hlo hhi, Bool.false_eq_true, if_false, if_true]
    exact if_pos (by omega)

/-! ### A conversion's end (R17) -/

theorem WarningsJudged.chk {p q : Panel} (h : WarningsJudged p q) : q.chk = p.chk := h.1.reaches.chk

theorem withFaults_phase (p : Panel) : p.withFaults.chk.phase = p.chk.phase := by
  unfold Panel.withFaults
  split <;> rfl

theorem senseReading_of_not_driven {p : Panel} (h : p.chk.phase ≠ .driven) (reading : Byte) (started : Micros) :
    senseReading reading started p = p := by
  unfold senseReading
  split
  case h_1 hphase _ _ => exact absurd hphase h
  case h_2 => rfl

/-- A conversion that reaches no step of the check: the reading is taken, and the fault indication and the warnings are
judged. -/
theorem conversionComplete_judged {p : Panel} {conv : Conversion} {a : Adc} (reading : Byte)
    (hconv : p.adc.conversion = some conv) (hsense : conv.channel = .sense → p.chk.phase ≠ .driven)
    (ha : Adc.taken p.nvs.calibration p.pcu.timebase conv.channel reading p.adc = a) :
    conversionComplete reading p = judgeFaultIndication (p.withAdc a) := by
  rw [conversionComplete_eq reading hconv, Panel.onAdc, ha]
  split
  case isFalse => rfl
  case isTrue hc =>
    refine senseReading_of_not_driven ?_ reading _
    rw [(judgeFaultIndication_reach _).chk, withFaults_phase]
    exact hsense hc

theorem judgeFaultIndication_withAdc (p : Panel) (a : Adc) : (judgeFaultIndication (p.withAdc a)).adc = a :=
  (judgeFaultIndication_reaches _).adc

/-- Settles O21: BATTERY is taken whatever its reading. -/
theorem aBatteryConversion : Obligations.ABatteryConversion := by
  unfold Obligations.ABatteryConversion
  intro s r started timer hp hconv
  refine ⟨_, exec_eq_effect hp, ?_⟩
  rw [commandEffect, conversionComplete_judged r hconv (fun h => nomatch h) rfl]
  exact judgeFaultIndication_reach _

/-- R17, R19: a sender's reading, its fault record's answer known. -/
theorem Adc.takeSender_eq {cal : Calibration} {a : Adc} {sd : Sender} {r : Byte} {g : SenderFault} {converted : Bool}
    (h : (a.faults.get sd).take r = (g, converted)) : a.takeSender cal sd r = { a with
      faults := a.faults.set sd g
      fuelLevel := if converted ∧ sd = .fuel then some (curveValue cal.tankCurve r.toNat).toNat else a.fuelLevel
      coolantTemp := if converted ∧ sd = .coolant then some (curveValue cal.coolantCurve r.toNat) else a.coolantTemp
      oilPressure := if converted ∧ sd = .oil then some (curveValue cal.oilCurve r.toNat).toNat
        else a.oilPressure } := by
  rw [Adc.takeSender, h]
  cases converted
  case false => simp
  case true => cases sd <;> simp [Adc.setValue]

theorem faultTerms_of_sender {p : Panel} {sd : Sender} (h : (p.adc.faults.get sd).flag = true) :
    faultTerms p = true := by
  have hany : allSenders.any (senderFault p) = true := by
    rw [List.any_eq_true]
    exact ⟨sd, by cases sd <;> decide, h⟩
  simp only [faultTerms, hany, Bool.or_true, Bool.true_or]

/-- Settles O22: a sender's reading goes through its fault record, another channel's is taken as it is, and 2 s out of
range make a sender faulty. -/
theorem aSenderReading : Obligations.ASenderReading := by
  unfold Obligations.ASenderReading
  refine ⟨?_, ?_, ?_⟩
  · intro s sd c r started timer f g converted hp hc hconv hf hcase
    have htake := SenderFault.take_eq hcase
    rw [hf] at htake
    refine ⟨_, exec_eq_effect hp, ?_⟩
    rw [commandEffect, conversionComplete_judged r hconv (fun h => by rw [hc] at h; cases sd <;> cases h) rfl,
      judgeFaultIndication_withAdc]
    refine ⟨?_, judgeFaultIndication_reach _⟩
    rw [hc]
    cases sd <;> exact Adc.takeSender_eq htake
  · intro s c next r started timer hp hconv hcase
    have hsense : c = .sense → s.chk.phase ≠ .driven := by
      rcases hcase with ⟨rfl, _⟩ | ⟨rfl, _⟩ | ⟨rfl, _⟩ | ⟨_, _, h⟩
      case inr.inr.inr => exact fun _ => h
      all_goals exact fun h => nomatch h
    refine ⟨_, exec_eq_effect hp, ?_⟩
    rw [commandEffect, conversionComplete_judged r hconv hsense rfl, judgeFaultIndication_withAdc]
    refine ⟨?_, judgeFaultIndication_reach _⟩
    rcases hcase with ⟨rfl, rfl⟩ | ⟨rfl, rfl⟩ | ⟨rfl, rfl⟩ | ⟨rfl, rfl, _⟩ <;> rfl
  · intro s sd hp hout
    have hjudged := judgeFaultIndication_reach (s.toPanel.withAdc { s.adc with
      faults := s.adc.faults.set sd ⟨true, none, 0⟩ })
    refine ⟨_, exec_eq_effect hp, ?_⟩
    rw [commandEffect, persistenceExpiry, if_pos hout]
    refine ⟨hjudged, fun hdone => ?_⟩
    rw [hjudged.chk, Panel.withFaults, if_pos (by exact hdone)]
    exact faultTerms_of_sender (sd := sd) (by simp)

end Sys2Proof.Machine
end

section
/-! PROOFS. The gauges' refresh: movement, phases, coil duties and the holds granted. -/

namespace Sys2Proof.Machine

open Sys2Proof

/-! ### Movement (R75, R76) -/

theorem angleGap_eq (a b : Nat) : (angleGap a b : Int) = |(a : Int) - b| := by
  rw [angleGap]
  rcases le_total a b with h | h
  · rw [abs_of_nonpos (by omega)]
    omega
  · rw [abs_of_nonneg (by omega)]
    omega

theorem moveToward_eq (c t d step : Nat) : (moveToward c t d step : Int) =
    if (d : Int) < |(t : Int) - c| then c + (if c < t then 1 else -1) * min |(t : Int) - c| step else c := by
  have hdef : angleGap t c = (t - c) + (c - t) := rfl
  rw [moveToward, ← angleGap_eq]
  by_cases hgap : angleGap t c ≤ d
  · rw [if_pos hgap, if_neg (not_lt.mpr (Int.ofNat_le.mpr hgap))]
  · rw [if_neg hgap, if_pos (Int.ofNat_lt.mpr (Nat.lt_of_not_le hgap))]
    by_cases hlt : c < t
    · rw [if_pos hlt, if_pos hlt]
      omega
    · rw [if_neg hlt, if_neg hlt]
      omega

theorem moveToward_le {c t d step limit : Nat} (hc : c ≤ limit) (ht : t ≤ limit) : moveToward c t d step ≤ limit := by
  unfold moveToward
  split
  · exact hc
  · split <;> omega

/-- R75: a phase that moves, with the deadband and the step of its movement. -/
theorem phaseMove_eq {slew deadband d step : Nat} {ph : Phase}
    (h : match ph with
      | .tracking => d = deadband ∧ step = slew
      | .sweepUp | .sweepDown => d = 0 ∧ step = 16
      | .parking => d = 0 ∧ step = max slew 8
      | .parked | .disabled => False) : phaseMove slew deadband ph = some (d, step) := by
  cases ph <;> first | exact h.elim | (obtain ⟨rfl, rfl⟩ := h; rfl)

theorem GaugeRecord.move_of_free {slew deadband d step : Nat} {r : GaugeRecord} (hhold : r.hold = .none)
    (hmove : phaseMove slew deadband r.phase = some (d, step)) :
    r.move slew deadband = { r with current := moveToward r.current r.target d step } := by
  rw [GaugeRecord.move, if_pos hhold, hmove]

theorem GaugeRecord.move_of_still {slew deadband : Nat} {r : GaugeRecord}
    (h : r.hold ≠ .none ∨ r.phase = .parked ∨ r.phase = .disabled) : r.move slew deadband = r := by
  unfold GaugeRecord.move
  split
  case isFalse => rfl
  case isTrue hhold =>
    rcases h with h | h | h
    · exact absurd hhold h
    · rw [h]
      rfl
    · rw [h]
      rfl

/-- A movement changes Current alone. -/
theorem GaugeRecord.move_only (slew deadband : Nat) (r : GaugeRecord) :
    r.move slew deadband = { r with current := (r.move slew deadband).current } := by
  unfold GaugeRecord.move
  split
  · split <;> rfl
  · rfl

theorem GaugeRecord.move_le {slew deadband limit : Nat} {r : GaugeRecord} (hc : r.current ≤ limit)
    (ht : r.target ≤ limit) : (r.move slew deadband).current ≤ limit := by
  unfold GaugeRecord.move
  split
  · split
    · exact moveToward_le hc ht
    · exact hc
  · exact hc

/-! ### Phases (R78) -/

/-- R78: the phase of a gauge by its own movement. -/
def GaugeRecord.phaseJudged (deadband : Nat) (r : GaugeRecord) : Phase :=
  match r.phase with
  | .sweepDown => if angleGap r.target r.current ≤ deadband then .tracking else .sweepDown
  | .parking => if r.current = 0 then .parked else .parking
  | ph => ph

theorem GaugeRecord.judgePhase_eq (deadband : Nat) (r : GaugeRecord) :
    r.judgePhase deadband = { r with phase := r.phaseJudged deadband } := by
  obtain ⟨target, current, ph, hold, faulted, duty⟩ := r
  cases ph
  case sweepDown =>
    simp only [judgePhase, phaseJudged]
    split <;> rfl
  case parking =>
    simp only [judgePhase, phaseJudged]
    split <;> rfl
  all_goals rfl

/-- A gauge sweeps up after its own movement exactly when it did before. -/
theorem GaugeRecord.phaseJudged_sweepUp {deadband : Nat} {r : GaugeRecord} :
    r.phaseJudged deadband = .sweepUp ↔ r.phase = .sweepUp := by
  unfold GaugeRecord.phaseJudged
  split
  case h_1 h => split <;> simp [h]
  case h_2 h => split <;> simp [h]
  case h_3 => exact Iff.rfl

theorem sweepTurns_iff (p : Panel) : sweepTurns p = true ↔ (∃ g, (p.gdr.gauges.get g).phase = .sweepUp) ∧
    ∀ g, (p.gdr.gauges.get g).phase = .sweepUp → (p.gdr.gauges.get g).current = 767 := by
  have hall : ∀ g : Gauge, g ∈ allGauges := fun g => by cases g <;> decide
  simp only [sweepTurns, Bool.and_eq_true, List.any_eq_true, List.all_eq_true, Bool.or_eq_true, beq_iff_eq,
    bne_iff_ne, hall, true_and, true_implies, ← imp_iff_not_or, ne_eq]

/-! ### The stages of a refresh (R74 to R78, R84, R87 to R90) -/

@[simp] theorem mapGauges_get (f : Gauge → GaugeRecord → GaugeRecord) (p : Panel) (g : Gauge) :
    (p.mapGauges f).gdr.gauges.get g = f g (p.gdr.gauges.get g) := by
  simp [Panel.mapGauges]

theorem mapGauges_reaches (f : Gauge → GaugeRecord → GaugeRecord) (p : Panel) :
    Reaches [.gdr] p (p.mapGauges f) := withGdr_reaches _ p

/-- The gauges' calibration and the refresh timer stand. -/
structure GaugesOnly (p q : Panel) : Prop where
  gauges : q.gdr = { p.gdr with gauges := q.gdr.gauges }
  reaches : Reaches [.gdr] p q

theorem GaugesOnly.refl (p : Panel) : GaugesOnly p p := ⟨rfl, .refl _ p⟩

theorem GaugesOnly.trans {p q r : Panel} (h : GaugesOnly p q) (k : GaugesOnly q r) : GaugesOnly p r :=
  ⟨by rw [k.1, h.1], k.2.after h.2⟩

theorem GaugesOnly.calibration {p q : Panel} (h : GaugesOnly p q) : q.gdr.calibration = p.gdr.calibration := by
  rw [h.1]

theorem mapGauges_only (f : Gauge → GaugeRecord → GaugeRecord) (p : Panel) : GaugesOnly p (p.mapGauges f) :=
  ⟨rfl, mapGauges_reaches f p⟩

/-- A gauge record once it has moved toward the target of its phase. -/
def GaugeRecord.moved (cal : Calibration) (g : Gauge) (tracking : Nat) (r : GaugeRecord) : GaugeRecord :=
  GaugeRecord.move (cal.gaugeSlew.get g) (cal.gaugeDeadband.get g) { r with target := phaseTarget tracking r.phase }

/-- The part after the movement of a refresh. -/
def gaugesMoved (p : Panel) : Panel := moveGauges (setTargets (takeGaugeCalibration p))

theorem gaugesMoved_get (p : Panel) (g : Gauge) : (gaugesMoved p).gdr.gauges.get g =
    (p.gdr.gauges.get g).moved p.nvs.calibration g (trackingValue (takeGaugeCalibration p) g) := by
  simp only [gaugesMoved, moveGauges, setTargets, mapGauges_get, takeGaugeCalibration_eq, Panel.withGdr_gdr]
  rfl

theorem gaugesMoved_gdr (p : Panel) : (gaugesMoved p).gdr =
    { p.gdr with gauges := (gaugesMoved p).gdr.gauges, calibration := p.nvs.calibration.forGauges } := rfl

theorem gaugesMoved_reaches (p : Panel) : Reaches [.gdr] p (gaugesMoved p) :=
  (mapGauges_reaches _ _).after (bs := [.gdr]) ((mapGauges_reaches _ _).after (withGdr_reaches _ p))

/-- R78: every SWEEP_UP turns together. -/
def Phase.turned (turns : Bool) (ph : Phase) : Phase := if turns ∧ ph = .sweepUp then .sweepDown else ph

/-- Every gauge that sweeps up is at the top. -/
def sweepIsUp (p : Panel) : Bool :=
  sweepTurns (p.mapGauges fun g r => r.judgePhase (p.gdr.calibration.deadband.get g))

theorem judgePhases_get (p : Panel) (g : Gauge) : (judgePhases p).gdr.gauges.get g = { p.gdr.gauges.get g with
    phase := ((p.gdr.gauges.get g).phaseJudged (p.gdr.calibration.deadband.get g)).turned (sweepIsUp p) } := by
  unfold judgePhases
  dsimp only
  rw [← sweepIsUp]
  cases sweepIsUp p
  case false => simp [GaugeRecord.judgePhase_eq, Phase.turned]
  case true =>
    simp only [if_true, mapGauges_get, GaugeRecord.judgePhase_eq, Phase.turned, true_and]
    split <;> rfl

theorem judgePhases_only (p : Panel) : GaugesOnly p (judgePhases p) := by
  unfold judgePhases
  dsimp only
  split
  · exact (mapGauges_only _ p).trans (mapGauges_only _ _)
  · exact mapGauges_only _ p

theorem sweepIsUp_iff (p : Panel) : sweepIsUp p = true ↔ (∃ g, (p.gdr.gauges.get g).phase = .sweepUp) ∧
    ∀ g, (p.gdr.gauges.get g).phase = .sweepUp → (p.gdr.gauges.get g).current = 767 := by
  simp only [sweepIsUp, sweepTurns_iff, mapGauges_get, GaugeRecord.judgePhase_eq, GaugeRecord.phaseJudged_sweepUp]

theorem driveGauges_get (p : Panel) (g : Gauge) : (driveGauges p).gdr.gauges.get g =
    match (p.gdr.gauges.get g).hold with
    | .none => (p.gdr.gauges.get g).drive (p.gdr.calibration.elecOffset.get g)
    | .requested => { p.gdr.gauges.get g with hold := .granted, duty := coilsOff }
    | .granted => p.gdr.gauges.get g :=
  mapGauges_get _ p g

/-- Driving the coils changes a gauge's Hold and duties alone. -/
theorem driveGauges_rest (p : Panel) (g : Gauge) : (driveGauges p).gdr.gauges.get g = { p.gdr.gauges.get g with
    hold := ((driveGauges p).gdr.gauges.get g).hold, duty := ((driveGauges p).gdr.gauges.get g).duty } := by
  rw [driveGauges_get]
  split <;> rfl

theorem refreshStages_eq (p : Panel) : refreshStages p = driveGauges (judgePhases (gaugesMoved p)) := rfl

/-- After the movement, the stages of a refresh change the gauge records alone. -/
theorem refreshStages_only (p : Panel) : GaugesOnly (gaugesMoved p) (refreshStages p) := by
  rw [refreshStages_eq]
  exact (judgePhases_only (gaugesMoved p)).trans (mapGauges_only _ _)

theorem refreshStages_gdr (p : Panel) : (refreshStages p).gdr =
    { p.gdr with gauges := (refreshStages p).gdr.gauges, calibration := p.nvs.calibration.forGauges } := by
  rw [(refreshStages_only p).1, gaugesMoved_gdr]

theorem refreshStages_reaches (p : Panel) : Reaches [.gdr] p (refreshStages p) :=
  (refreshStages_only p).2.after (gaugesMoved_reaches p)

theorem refreshStages_current (p : Panel) (g : Gauge) : ((refreshStages p).gdr.gauges.get g).current =
    ((gaugesMoved p).gdr.gauges.get g).current := by
  rw [refreshStages_eq, driveGauges_rest, judgePhases_get]

theorem refreshStages_phase (p : Panel) (g : Gauge) : ((refreshStages p).gdr.gauges.get g).phase =
    (((gaugesMoved p).gdr.gauges.get g).phaseJudged (p.nvs.calibration.gaugeDeadband.get g)).turned
      (sweepIsUp (gaugesMoved p)) := by
  rw [refreshStages_eq, driveGauges_rest, judgePhases_get]
  rfl

/-! ### The holds granted (R84, R146) -/

/-- R146: the check waits for the gauge's hold. -/
def Chk.Awaits (c : Chk) (g : Gauge) : Prop := c.phase = .holdWait ∧ c.currentItem = some (.coil g .sin)

/-- Two gauges are never waited for at once. -/
theorem Chk.Awaits.eq {c : Chk} {g k : Gauge} (h : c.Awaits g) (h' : c.Awaits k) : g = k := by
  have hsame := h.2.symm.trans h'.2
  simp only [Option.some.injEq, CheckItem.coil.injEq, and_true] at hsame
  exact hsame

theorem driveCoil_phase (g : Gauge) (c : Coil) (p : Panel) : (driveCoil g c p).chk.phase = .driven := rfl

theorem driveCoil_not_awaits (g k : Gauge) (c : Coil) (p : Panel) : ¬(driveCoil g c p).chk.Awaits k :=
  fun h => absurd (h.1.symm.trans (driveCoil_phase g c p)) (by decide)

theorem holdGranted_of_awaits {g : Gauge} {p : Panel} (h : p.chk.Awaits g) : holdGranted g p = driveCoil g .sin p :=
  if_pos h

theorem holdGranted_of_not_awaits {g : Gauge} {p : Panel} (h : ¬p.chk.Awaits g) : holdGranted g p = p := if_neg h

/-- The delivery of one gauge's grant. -/
def grantDelivered (before : PerGauge GaugeRecord) (q : Panel) (g : Gauge) : Panel :=
  if (before.get g).hold = .requested then holdGranted g q else q

theorem grantDelivered_of_not_awaits {before : PerGauge GaugeRecord} {p : Panel} {g : Gauge}
    (h : (before.get g).hold = .requested → ¬p.chk.Awaits g) : grantDelivered before p g = p := by
  unfold grantDelivered
  split
  · exact holdGranted_of_not_awaits (h ‹_›)
  · rfl

theorem foldl_grantDelivered_none {before : PerGauge GaugeRecord} {p : Panel} {gs : List Gauge}
    (h : ∀ g ∈ gs, (before.get g).hold = .requested → ¬p.chk.Awaits g) : gs.foldl (grantDelivered before) p = p := by
  induction gs with
  | nil => rfl
  | cons g gs ih =>
    rw [List.foldl_cons, grantDelivered_of_not_awaits (h g (List.mem_cons_self ..))]
    exact ih fun k hk => h k (List.mem_cons_of_mem g hk)

theorem foldl_grantDelivered_some {before : PerGauge GaugeRecord} {p : Panel} {g : Gauge} {gs : List Gauge}
    (hreq : (before.get g).hold = .requested) (hin : g ∈ gs) (hwait : p.chk.Awaits g) :
    gs.foldl (grantDelivered before) p = driveCoil g .sin p := by
  induction gs with
  | nil => exact absurd hin List.not_mem_nil
  | cons k gs ih =>
    rw [List.foldl_cons]
    by_cases hk : k = g
    · rw [hk, grantDelivered, if_pos hreq, holdGranted_of_awaits hwait]
      exact foldl_grantDelivered_none fun k _ _ => driveCoil_not_awaits g k .sin p
    · rw [grantDelivered_of_not_awaits fun _ h => hk (h.eq hwait)]
      exact ih ((List.mem_cons.mp hin).resolve_left (Ne.symm hk))

theorem deliverGrants_of_awaits {before : PerGauge GaugeRecord} {g : Gauge} {p : Panel}
    (hreq : (before.get g).hold = .requested) (hwait : p.chk.Awaits g) :
    deliverGrants before p = driveCoil g .sin p :=
  foldl_grantDelivered_some (gs := allGauges) hreq (by cases g <;> decide) hwait

theorem deliverGrants_of_none {before : PerGauge GaugeRecord} {p : Panel}
    (h : ∀ g, (before.get g).hold = .requested → ¬p.chk.Awaits g) : deliverGrants before p = p :=
  foldl_grantDelivered_none (gs := allGauges) fun g _ => h g

/-- Either no requested gauge is waited for, or one is, and its sin coil is driven. -/
theorem deliverGrants_cases (before : PerGauge GaugeRecord) (p : Panel) :
    deliverGrants before p = p ∧ (∀ g, (before.get g).hold = .requested → ¬p.chk.Awaits g) ∨
    ∃ g, (before.get g).hold = .requested ∧ p.chk.Awaits g ∧ deliverGrants before p = driveCoil g .sin p := by
  by_cases h : ∃ g, (before.get g).hold = .requested ∧ p.chk.Awaits g
  · obtain ⟨g, hreq, hwait⟩ := h
    exact .inr ⟨g, hreq, hwait, deliverGrants_of_awaits hreq hwait⟩
  · have hnone : ∀ g, (before.get g).hold = .requested → ¬p.chk.Awaits g := fun g hreq hwait => h ⟨g, hreq, hwait⟩
    exact .inl ⟨deliverGrants_of_none hnone, hnone⟩

theorem driveCoil_get (g k : Gauge) (c : Coil) (p : Panel) : (driveCoil g c p).gdr.gauges.get k =
    if k = g then { p.gdr.gauges.get g with duty := coilsOff.set c 255 } else p.gdr.gauges.get k := by
  have hgauges : (driveCoil g c p).gdr.gauges =
      p.gdr.gauges.set g { p.gdr.gauges.get g with duty := coilsOff.set c 255 } := rfl
  rw [hgauges]
  split
  case isTrue h =>
    subst h
    exact PerGauge.get_set_self ..
  case isFalse h => exact PerGauge.get_set_ne _ _ h

theorem driveCoil_gdr (g : Gauge) (c : Coil) (p : Panel) :
    (driveCoil g c p).gdr = { p.gdr with gauges := (driveCoil g c p).gdr.gauges } := rfl

theorem driveCoil_reaches (g : Gauge) (c : Coil) (p : Panel) : Reaches [.gdr, .chk] p (driveCoil g c p) :=
  (withGdr_reaches _ _).after (withChk_reaches _ p)

theorem deliverGrants_reaches (before : PerGauge GaugeRecord) (p : Panel) :
    Reaches [.gdr, .chk] p (deliverGrants before p) := by
  rcases deliverGrants_cases before p with ⟨h, _⟩ | ⟨g, _, _, h⟩
  · rw [h]
    exact .refl _ p
  · rw [h]
    exact driveCoil_reaches g .sin p

theorem deliverGrants_gdr (before : PerGauge GaugeRecord) (p : Panel) :
    (deliverGrants before p).gdr = { p.gdr with gauges := (deliverGrants before p).gdr.gauges } := by
  rcases deliverGrants_cases before p with ⟨h, _⟩ | ⟨g, _, _, h⟩
  · rw [h]
  · rw [h, driveCoil_gdr]

/-- The grants change a gauge's duties alone. -/
theorem deliverGrants_get (before : PerGauge GaugeRecord) (p : Panel) (g : Gauge) :
    (deliverGrants before p).gdr.gauges.get g =
      { p.gdr.gauges.get g with duty := ((deliverGrants before p).gdr.gauges.get g).duty } := by
  rcases deliverGrants_cases before p with ⟨h, _⟩ | ⟨k, _, _, h⟩
  · rw [h]
  · rw [h, driveCoil_get]
    split
    case isTrue hg => rw [hg]
    case isFalse => rfl

/-- A gauge whose hold was not requested is left by the grants. -/
theorem deliverGrants_get_other {before : PerGauge GaugeRecord} {p : Panel} {g : Gauge}
    (hnot : (before.get g).hold ≠ .requested) :
    (deliverGrants before p).gdr.gauges.get g = p.gdr.gauges.get g := by
  rcases deliverGrants_cases before p with ⟨h, _⟩ | ⟨k, hreq, _, h⟩
  · rw [h]
  · rw [h, driveCoil_get, if_neg fun hg => hnot (by rw [hg, hreq])]

end Sys2Proof.Machine
end

section
/-! PROOFS. The refresh as a whole, and the gauges at rest. -/

namespace Sys2Proof.Machine

open Sys2Proof

/-! ### The gauges at rest (R80, R195) -/

theorem gaugesRest_iff (p : Panel) : gaugesRest p = true ↔
    ∀ g, (p.gdr.gauges.get g).phase = .parked ∨ (p.gdr.gauges.get g).phase = .disabled := by
  have hall : ∀ g : Gauge, g ∈ allGauges := fun g => by cases g <;> decide
  simp only [gaugesRest, List.all_eq_true, Bool.or_eq_true, beq_iff_eq, hall, true_implies]

/-- R195: a gauge record in STANDBY. -/
def GaugeRecord.stoodBy (r : GaugeRecord) : GaugeRecord :=
  { r with
    phase := if r.phase = .parking then .parked else r.phase
    target := if r.phase = .parking then 0 else r.target
    duty := coilsOff }

theorem gaugesEnterStandby_get (p : Panel) (g : Gauge) :
    (gaugesEnterStandby p).gdr.gauges.get g = (p.gdr.gauges.get g).stoodBy := by
  simp only [gaugesEnterStandby, Panel.withGdr_gdr, mapGauges_get, GaugeRecord.stoodBy]
  split <;> rfl

theorem gaugesEnterStandby_gdr (p : Panel) : (gaugesEnterStandby p).gdr =
    { p.gdr with gauges := (gaugesEnterStandby p).gdr.gauges, refreshTimer := none } := rfl

theorem setMode_reaches (m : Mode) (p : Panel) : Reaches [.pmc, .lnk] p (setMode m p) :=
  (notifyAll_reaches _ _).after (withPmc_reaches _ p)

/-- The blocks that STANDBY entry writes before the warnings are judged. -/
theorem beforeStandby_reaches (p : Panel) : Reaches [.pmc, .sws, .adc, .lnk] p
    (Panel.onAdc Adc.enterStandby (Panel.onSws (Sws.modeChange .standby) (setMode .standby p))) :=
  (withAdc_reaches _ _).after ((withSws_reaches _ _).after (ds := [.pmc, .sws, .lnk]) (setMode_reaches _ p))

theorem gaugesEnterStandby_reaches (p : Panel) : Reaches [.gdr] p (gaugesEnterStandby p) :=
  (withGdr_reaches _ _).after (ds := [.gdr]) (mapGauges_reaches _ p)

theorem enterStandby_reaches (p : Panel) : Reaches [.pmc, .sws, .adc, .gdr, .wrc, .lnk] p (enterStandby p) :=
  (judgeWarnings_reaches _).after ((gaugesEnterStandby_reaches _).after (ds := [.pmc, .sws, .adc, .gdr, .lnk])
    (beforeStandby_reaches p))

theorem enterStandby_gdr (p : Panel) : (enterStandby p).gdr =
    { p.gdr with gauges := (enterStandby p).gdr.gauges, refreshTimer := none } := by
  rw [enterStandby_eq, (judgeWarnings_reaches _).gdr, gaugesEnterStandby_gdr, (beforeStandby_reaches p).gdr]

theorem enterStandby_get (p : Panel) (g : Gauge) :
    (enterStandby p).gdr.gauges.get g = (p.gdr.gauges.get g).stoodBy := by
  rw [enterStandby_eq, (judgeWarnings_reaches _).gdr, gaugesEnterStandby_get, (beforeStandby_reaches p).gdr]

/-- R195: the end of SHUTDOWN leaves every Current, and the Phase of every gauge that is not parking. -/
theorem judgeRest_get (p : Panel) (g : Gauge) :
    ((judgeRest p).gdr.gauges.get g).current = (p.gdr.gauges.get g).current ∧
      ((p.gdr.gauges.get g).phase ≠ .parking →
        ((judgeRest p).gdr.gauges.get g).phase = (p.gdr.gauges.get g).phase) := by
  unfold judgeRest
  split
  · rw [enterStandby_get]
    exact ⟨rfl, fun h => if_neg h⟩
  · exact ⟨rfl, fun _ => rfl⟩

theorem judgeGaugesRest_of_running {p : Panel} (h : p.pmc.mode ≠ .shutdown) : judgeGaugesRest p = p :=
  if_neg fun hc => h hc.1

/-- R80: gauges at rest leave every Current and every Phase. -/
theorem judgeGaugesRest_get (p : Panel) (g : Gauge) :
    ((judgeGaugesRest p).gdr.gauges.get g).current = (p.gdr.gauges.get g).current ∧
      ((judgeGaugesRest p).gdr.gauges.get g).phase = (p.gdr.gauges.get g).phase := by
  unfold judgeGaugesRest
  split
  case isFalse => exact ⟨rfl, rfl⟩
  case isTrue h =>
    obtain ⟨hmode, hrest, _⟩ := h
    have hnot : (p.gdr.gauges.get g).phase ≠ .parking := by
      rcases (gaugesRest_iff p).mp hrest g with h | h <;> rw [h] <;> decide
    unfold takeGaugesAtRest
    rw [if_pos (by exact hmode)]
    have hjudged := judgeRest_get ((p.withGdr { p.gdr with restDelivered := true }).withPmc
      { p.pmc with gaugesAtRest := true, shutdownTimer := none }) g
    exact ⟨hjudged.1, hjudged.2 hnot⟩

/-! ### The refresh -/

/-- The part at a refresh, its timer started again, once the gauges have moved, judged their phases and set their
duties. -/
def refreshed (p : Panel) : Panel := refreshStages (p.withGdr { p.gdr with refreshTimer := some 15625 })

theorem refreshExpiry_of_running {p : Panel} (h : p.gdr.refreshTimer.isSome = true) :
    refreshExpiry p = judgeGaugesRest (deliverGrants p.gdr.gauges (refreshed p)) := if_pos h

theorem refreshed_reaches (p : Panel) : Reaches [.gdr] p (refreshed p) :=
  (refreshStages_reaches _).after (withGdr_reaches _ p)

theorem refreshed_gdr (p : Panel) : (refreshed p).gdr = { p.gdr with
    gauges := (refreshed p).gdr.gauges, calibration := p.nvs.calibration.forGauges, refreshTimer := some 15625 } :=
  refreshStages_gdr _

/-- A gauge record after the movement of a refresh. -/
def Panel.gaugeMoved (p : Panel) (g : Gauge) : GaugeRecord :=
  (p.gdr.gauges.get g).moved p.nvs.calibration g (trackingValue (takeGaugeCalibration p) g)

/-- The part at a refresh once the gauges have moved. -/
def Panel.atMoved (p : Panel) : Panel := gaugesMoved (p.withGdr { p.gdr with refreshTimer := some 15625 })

theorem Panel.atMoved_get (p : Panel) (g : Gauge) : p.atMoved.gdr.gauges.get g = p.gaugeMoved g :=
  gaugesMoved_get _ g

theorem refreshExpiry_current {p : Panel} (h : p.gdr.refreshTimer.isSome = true) (g : Gauge) :
    ((refreshExpiry p).gdr.gauges.get g).current = (p.gaugeMoved g).current := by
  rw [refreshExpiry_of_running h, (judgeGaugesRest_get _ g).1, deliverGrants_get, refreshed, refreshStages_current]
  exact congrArg GaugeRecord.current (p.atMoved_get g)

theorem refreshExpiry_phase {p : Panel} (h : p.gdr.refreshTimer.isSome = true) (g : Gauge) :
    ((refreshExpiry p).gdr.gauges.get g).phase =
      ((p.gaugeMoved g).phaseJudged (p.nvs.calibration.gaugeDeadband.get g)).turned (sweepIsUp p.atMoved) := by
  rw [refreshExpiry_of_running h, (judgeGaugesRest_get _ g).2, deliverGrants_get, refreshed, refreshStages_phase]
  exact congrArg (fun r => (GaugeRecord.phaseJudged _ r).turned _) (p.atMoved_get g)

theorem refreshExpiry_outside_shutdown {p : Panel} (h : p.gdr.refreshTimer.isSome = true)
    (hmode : p.pmc.mode ≠ .shutdown) : refreshExpiry p = deliverGrants p.gdr.gauges (refreshed p) := by
  have hreach := (deliverGrants_reaches p.gdr.gauges (refreshed p)).after (ds := [.gdr, .chk]) (refreshed_reaches p)
  rw [refreshExpiry_of_running h, judgeGaugesRest_of_running (hreach.pmc ▸ hmode)]

/-- Outside SHUTDOWN a refresh reaches the gauges and the check alone. -/
theorem refreshExpiry_reaches {p : Panel} (h : p.gdr.refreshTimer.isSome = true) (hmode : p.pmc.mode ≠ .shutdown) :
    Reaches [.gdr, .chk] p (refreshExpiry p) := by
  rw [refreshExpiry_outside_shutdown h hmode]
  exact (deliverGrants_reaches _ _).after (ds := [.gdr, .chk]) (refreshed_reaches p)

theorem Reaches.eq_gdr_chk {p q : Panel} (h : Reaches [.gdr, .chk] p q) : q = { p with gdr := q.gdr, chk := q.chk } :=
  h.eq_of_reaches ((withChk_reaches q.chk _).after (withGdr_reaches q.gdr p)) (by
    simp only [List.mem_cons, List.not_mem_nil, or_false, forall_eq_or_imp, forall_eq]
    exact ⟨rfl, rfl⟩)

theorem gaugeMoved_phase (p : Panel) (g : Gauge) : (p.gaugeMoved g).phase = (p.gdr.gauges.get g).phase := by
  rw [Panel.gaugeMoved, GaugeRecord.moved, GaugeRecord.move_only]

theorem gaugeMoved_hold (p : Panel) (g : Gauge) : (p.gaugeMoved g).hold = (p.gdr.gauges.get g).hold := by
  rw [Panel.gaugeMoved, GaugeRecord.moved, GaugeRecord.move_only]

theorem gaugeMoved_target (p : Panel) (g : Gauge) : (p.gaugeMoved g).target =
    phaseTarget (trackingValue (takeGaugeCalibration p) g) (p.gdr.gauges.get g).phase := by
  rw [Panel.gaugeMoved, GaugeRecord.moved, GaugeRecord.move_only]

theorem gaugeMoved_duty (p : Panel) (g : Gauge) : (p.gaugeMoved g).duty = (p.gdr.gauges.get g).duty := by
  rw [Panel.gaugeMoved, GaugeRecord.moved, GaugeRecord.move_only]

theorem gaugeMoved_current_of_free {p : Panel} {g : Gauge} {d step : Nat} (hhold : (p.gdr.gauges.get g).hold = .none)
    (hmove : phaseMove (p.nvs.calibration.gaugeSlew.get g) (p.nvs.calibration.gaugeDeadband.get g)
      (p.gdr.gauges.get g).phase = some (d, step)) : (p.gaugeMoved g).current =
    moveToward (p.gdr.gauges.get g).current
      (phaseTarget (trackingValue (takeGaugeCalibration p) g) (p.gdr.gauges.get g).phase) d step :=
  congrArg GaugeRecord.current (GaugeRecord.move_of_free (r := { p.gdr.gauges.get g with
    target := phaseTarget (trackingValue (takeGaugeCalibration p) g) (p.gdr.gauges.get g).phase }) hhold hmove)

theorem gaugeMoved_current_of_still {p : Panel} {g : Gauge} (h : (p.gdr.gauges.get g).hold ≠ .none ∨
    (p.gdr.gauges.get g).phase = .parked ∨ (p.gdr.gauges.get g).phase = .disabled) :
    (p.gaugeMoved g).current = (p.gdr.gauges.get g).current := by
  rw [Panel.gaugeMoved, GaugeRecord.moved, GaugeRecord.move_of_still (by exact h)]

theorem Phase.turned_of_ne {turns : Bool} {ph : Phase} (h : ph ≠ .sweepUp) : ph.turned turns = ph :=
  if_neg fun hc => h hc.2

theorem GaugeRecord.phaseJudged_of_other {deadband : Nat} {r : GaugeRecord} (hdown : r.phase ≠ .sweepDown)
    (hpark : r.phase ≠ .parking) : r.phaseJudged deadband = r.phase := by
  unfold GaugeRecord.phaseJudged
  split
  case h_1 h => exact absurd h hdown
  case h_2 h => exact absurd h hpark
  case h_3 => rfl

/-- Settles O23: each gauge moves by its phase (`moveToward_eq`), and its phase follows (`phaseJudged`, `turned`). -/
theorem aRefreshMovesTheGauges : Obligations.ARefreshMovesTheGauges := by
  unfold Obligations.ARefreshMovesTheGauges
  intro s hp htimer
  refine ⟨_, exec_eq_effect hp, ?_⟩
  rw [commandEffect]
  refine ⟨fun hmode => ⟨(refreshExpiry_reaches htimer hmode).eq_gdr_chk, ?_⟩, ?_⟩
  · rw [refreshExpiry_outside_shutdown htimer hmode, deliverGrants_gdr, refreshed_gdr]
  · rintro g r target rfl rfl
    rw [refreshExpiry_current htimer g]
    refine ⟨fun hhold d step hmove => ?_, fun hstill => ?_, fun hc ht => GaugeRecord.move_le hc ht, ?_⟩
    · rw [gaugeMoved_current_of_free hhold (phaseMove_eq hmove)]
      exact moveToward_eq ..
    · exact gaugeMoved_current_of_still hstill
    · have hphase := refreshExpiry_phase htimer g
      have hjudged := gaugeMoved_phase s.toPanel g
      have hother : ∀ ph, (s.gdr.gauges.get g).phase = ph → ph ≠ .sweepDown → ph ≠ .parking → ph ≠ .sweepUp →
          ((refreshExpiry s.toPanel).gdr.gauges.get g).phase = ph := fun ph h hdown hpark hup => by
        have hph := hjudged.trans h
        rw [hphase, GaugeRecord.phaseJudged_of_other (hph ▸ hdown) (hph ▸ hpark), hph, Phase.turned_of_ne hup]
      have hsweep := sweepIsUp_iff s.toPanel.atMoved
      simp only [Panel.atMoved_get, gaugeMoved_phase, ← refreshExpiry_current htimer] at hsweep
      split
      case h_1 h => rw [h, hother _ h (by decide) (by decide) (by decide)]
      case h_2 h => rw [h, hother _ h (by decide) (by decide) (by decide)]
      case h_3 h => rw [h, hother _ h (by decide) (by decide) (by decide)]
      case h_4 h =>
        have hup : (s.toPanel.gaugeMoved g).phaseJudged (s.nvs.calibration.gaugeDeadband.get g) = .sweepUp :=
          GaugeRecord.phaseJudged_sweepUp.mpr (hjudged.trans h)
        refine ⟨fun hall => ?_, fun ⟨k, hk, hne⟩ => ?_⟩
        · rw [hphase, hup, hsweep.mpr ⟨⟨g, h⟩, hall⟩]
          rfl
        · rw [hphase, hup, Bool.eq_false_iff.mpr fun hc => hne ((hsweep.mp hc).2 k hk)]
          rfl
      case h_5 h =>
        rw [hphase, GaugeRecord.phaseJudged, hjudged, h]
        dsimp only
        rw [gaugeMoved_target, ← angleGap_eq, h]
        simp only [Nat.cast_le]
        split <;> exact Phase.turned_of_ne (by decide)
      case h_6 h =>
        rw [hphase, GaugeRecord.phaseJudged, hjudged, h]
        dsimp only
        split <;> exact Phase.turned_of_ne (by decide)

/-! ### The duties of a refresh (R87, R88) -/

@[simp] theorem GaugeRecord.drive_phase (offset : Nat) (r : GaugeRecord) : (r.drive offset).phase = r.phase := rfl
@[simp] theorem GaugeRecord.drive_current (offset : Nat) (r : GaugeRecord) :
    (r.drive offset).current = r.current := rfl

theorem GaugeRecord.drive_duty (offset : Nat) (r : GaugeRecord) : (r.drive offset).duty =
    if r.phase = .parked ∨ r.phase = .disabled then ⟨0, 0⟩ else coilDuties ((r.current + offset) % 1024) := by
  unfold GaugeRecord.drive
  cases h : r.phase <;> rfl

theorem coilDuties_eq {theta k r : Nat} (hk : k = theta / 256) (hr : r = theta % 256) :
    (k = 0 → coilDuties theta = ⟨sine r, sine (256 - r)⟩) ∧
    (k = 1 → coilDuties theta = ⟨sine (256 - r), -(sine r : Int)⟩) ∧
    (k = 2 → coilDuties theta = ⟨-(sine r : Int), -(sine (256 - r) : Int)⟩) ∧
    (k = 3 → coilDuties theta = ⟨-(sine (256 - r) : Int), sine r⟩) := by
  unfold coilDuties
  dsimp only
  rw [← hk, ← hr]
  refine ⟨?_, ?_, ?_, ?_⟩ <;> (intro h; rw [h]; rfl)

/-- The record of a gauge before its coils are driven. -/
def Panel.gaugeJudged (p : Panel) (g : Gauge) : GaugeRecord := (judgePhases p.atMoved).gdr.gauges.get g

theorem gaugeJudged_hold (p : Panel) (g : Gauge) : (p.gaugeJudged g).hold = (p.gdr.gauges.get g).hold := by
  rw [Panel.gaugeJudged, judgePhases_get, Panel.atMoved_get]
  exact gaugeMoved_hold p g

theorem gaugeJudged_duty (p : Panel) (g : Gauge) : (p.gaugeJudged g).duty = (p.gdr.gauges.get g).duty := by
  rw [Panel.gaugeJudged, judgePhases_get, Panel.atMoved_get]
  exact gaugeMoved_duty p g

theorem refreshed_get (p : Panel) (g : Gauge) : (refreshed p).gdr.gauges.get g =
    match (p.gdr.gauges.get g).hold with
    | .none => (p.gaugeJudged g).drive (p.nvs.calibration.elecOffset.get g)
    | .requested => { p.gaugeJudged g with hold := .granted, duty := ⟨0, 0⟩ }
    | .granted => p.gaugeJudged g := by
  have hcal : (judgePhases p.atMoved).gdr.calibration = p.nvs.calibration.forGauges :=
    (judgePhases_only p.atMoved).calibration
  rw [refreshed, refreshStages_eq]
  change (driveGauges (judgePhases p.atMoved)).gdr.gauges.get g = _
  rw [driveGauges_get, hcal, ← gaugeJudged_hold p g]
  rfl

/-- Settles O24: a free gauge is driven by its angle, a requested hold is granted, and a granted one is left. -/
theorem aRefreshSetsTheCoilDuties : Obligations.ARefreshSetsTheCoilDuties := by
  unfold Obligations.ARefreshSetsTheCoilDuties
  intro s hp htimer hmode
  refine ⟨_, exec_eq_effect hp, ?_⟩
  rw [commandEffect, refreshExpiry_outside_shutdown htimer hmode]
  have hchk : (refreshed s.toPanel).chk = s.chk := (refreshed_reaches s.toPanel).chk
  have hpcu : (refreshed s.toPanel).pcu = s.pcu := (refreshed_reaches s.toPanel).pcu
  refine ⟨fun g theta k r hhold htheta hk hr => ?_, fun g hreq => ?_, fun g hgranted => ?_, fun hnone => ?_⟩
  · have hget : (deliverGrants s.gdr.gauges (refreshed s.toPanel)).gdr.gauges.get g =
        (s.toPanel.gaugeJudged g).drive (s.nvs.calibration.elecOffset.get g) := by
      rw [deliverGrants_get_other (by rw [hhold]; decide), refreshed_get, hhold]
    rw [hget, GaugeRecord.drive_current] at htheta
    rw [hget, GaugeRecord.drive_phase, GaugeRecord.drive_duty]
    have hcases := coilDuties_eq hk hr
    rw [htheta] at hcases
    refine ⟨fun hoff => ?_, fun hparked hdisabled => ?_⟩
    · rw [if_pos hoff]
    · rw [if_neg (not_or.mpr ⟨hparked, hdisabled⟩)]
      exact hcases
  · have hget := refreshed_get s.toPanel g
    rw [hreq] at hget
    refine ⟨by rw [deliverGrants_get, hget], fun hwait => ?_, fun hwait => ?_⟩
    · rw [deliverGrants_of_awaits hreq (hchk ▸ hwait), driveCoil_get, if_pos rfl]
      refine ⟨rfl, ?_⟩
      change { (refreshed s.toPanel).chk with
        currentItem := some (.coil g .sin), phase := .driven, driveTime := some (refreshed s.toPanel).pcu.timebase } = _
      rw [hchk, hpcu, ← hwait.2]
    · rcases deliverGrants_cases s.gdr.gauges (refreshed s.toPanel) with ⟨h, _⟩ | ⟨k, _, hk, h⟩
      · rw [h, hget]
      · rw [h, driveCoil_get, if_neg (fun hg => hwait (by rw [← hchk, hg]; exact hk)), hget]
  · rw [deliverGrants_get_other (by rw [hgranted]; decide), refreshed_get, hgranted]
    exact ⟨(gaugeJudged_hold _ g).trans hgranted, gaugeJudged_duty _ g⟩
  · rw [deliverGrants_of_none fun g hreq => hchk ▸ hnone g hreq, hchk]

end Sys2Proof.Machine
end

section
/-! PROOFS. A curve with ordered points: its bounds and that it never falls. -/

namespace Sys2Proof.Machine

open Sys2Proof

/-! ### Rounded division -/

theorem roundDiv_mono {m n d : Nat} (h : m ≤ n) : roundDiv m d ≤ roundDiv n d :=
  Nat.div_le_div_right (by omega)

theorem roundDiv_mul_le (k n d : Nat) (h : n ≤ d) : roundDiv (k * n) d ≤ k := by
  rcases Nat.eq_zero_or_pos d with rfl | hd
  · simp [roundDiv]
  · have hle : k * n ≤ k * d := Nat.mul_le_mul_left k h
    have hlt : 2 * (k * n) + d < (k + 1) * (2 * d) := by
      have hexp : (k + 1) * (2 * d) = 2 * (k * d) + 2 * d := by ring
      omega
    exact Nat.le_of_lt_succ ((Nat.div_lt_iff_lt_mul (by omega)).mpr hlt)

/-! ### A curve's segments (R71) -/

/-- R71: what a segment from `a` to `b` adds to the angle of `a`, the angles never falling. -/
def segmentRise (a b : Int × Int) (x : Int) : Nat :=
  roundDiv ((b.2 - a.2).natAbs * (x - a.1).toNat) (b.1 - a.1).toNat

theorem segmentRise_mono {a b : Int × Int} {x y : Int} (h : x ≤ y) : segmentRise a b x ≤ segmentRise a b y :=
  roundDiv_mono (Nat.mul_le_mul_left _ (Int.toNat_le_toNat (by omega)))

theorem segmentRise_le {a b : Int × Int} {x : Int} (hx : x ≤ b.1) : segmentRise a b x ≤ (b.2 - a.2).natAbs :=
  roundDiv_mul_le _ _ _ (Int.toNat_le_toNat (by omega))

theorem curveValue_before {a b : Int × Int} {rest : Curve} {x : Int} (h : x ≤ a.1) :
    curveValue (a :: b :: rest) x = a.2 := if_pos h

theorem curveValue_between {a b : Int × Int} {rest : Curve} {x : Int} (hlo : a.1 < x) (hhi : x < b.1)
    (hrise : a.2 ≤ b.2) : curveValue (a :: b :: rest) x = a.2 + segmentRise a b x := by
  have hx : ¬x ≤ a.1 := by omega
  simp only [curveValue, if_neg hx, if_pos hhi, if_pos hrise]
  rfl

theorem curveValue_after {a b : Int × Int} {rest : Curve} {x : Int} (hab : a.1 < b.1) (h : b.1 ≤ x) :
    curveValue (a :: b :: rest) x = curveValue (b :: rest) x := by
  have hlo : ¬x ≤ a.1 := by omega
  have hhi : ¬x < b.1 := by omega
  simp only [curveValue, if_neg hlo, if_neg hhi]

/-! ### Ordered points -/

/-- The points of a curve in their order: x rises and the angle never falls. -/
structure Curve.Ordered (c : Curve) : Prop where
  rising : strictlyRising (c.map Prod.fst) = true
  neverFalls : neverFalling (c.map Prod.snd) = true

theorem Curve.ordered_cons {a b : Int × Int} {rest : Curve} (h : Curve.Ordered (a :: b :: rest)) :
    a.1 < b.1 ∧ a.2 ≤ b.2 ∧ Curve.Ordered (b :: rest) := by
  obtain ⟨hx, hy⟩ := h
  simp only [List.map_cons, strictlyRising, neverFalling, Bool.and_eq_true, decide_eq_true_eq] at hx hy
  exact ⟨hx.1, hy.1, by simpa using hx.2, by simpa using hy.2⟩

theorem curveValue_bounds {x : Int} : ∀ {c : Curve}, c.Ordered → ∀ first last, c.head? = some first →
    c.getLast? = some last → first.2 ≤ curveValue c x ∧ curveValue c x ≤ last.2
  | [], _, _, _, hfirst, _ => by cases hfirst
  | [a], _, first, last, hfirst, hlast => by
    cases hfirst
    cases hlast
    exact ⟨le_refl _, le_refl _⟩
  | a :: b :: rest, h, first, last, hfirst, hlast => by
    obtain ⟨hab, hrise, hrest⟩ := Curve.ordered_cons h
    cases hfirst
    rw [List.getLast?_cons_cons] at hlast
    have hb := curveValue_bounds (x := x) hrest b last rfl hlast
    have hblast := (curveValue_bounds (x := b.1) hrest b last rfl hlast).1.trans
      (curveValue_bounds (x := b.1) hrest b last rfl hlast).2
    rcases le_or_gt x a.1 with hx | hx
    · rw [curveValue_before hx]
      exact ⟨le_refl _, hrise.trans hblast⟩
    · rcases lt_or_ge x b.1 with hx' | hx'
      · rw [curveValue_between hx hx' hrise]
        have hle := segmentRise_le (a := a) hx'.le
        omega
      · rw [curveValue_after hab hx']
        exact ⟨hrise.trans hb.1, hb.2⟩

theorem curveValue_mono {x y : Int} (hxy : x ≤ y) : ∀ {c : Curve}, c.Ordered → curveValue c x ≤ curveValue c y
  | [], _ => le_refl _
  | [_], _ => le_refl _
  | a :: b :: rest, h => by
    obtain ⟨hab, hrise, hrest⟩ := Curve.ordered_cons h
    rcases le_or_gt x a.1 with hx | hx
    · rw [curveValue_before hx]
      exact (curveValue_bounds h a _ rfl (List.getLast?_eq_some_getLast (List.cons_ne_nil _ _))).1
    · rcases lt_or_ge y b.1 with hy | hy
      · rw [curveValue_between hx (by omega) hrise, curveValue_between (by omega) hy hrise]
        have hle := segmentRise_mono (a := a) (b := b) hxy
        omega
      · rw [curveValue_after hab hy]
        rcases lt_or_ge x b.1 with hx' | hx'
        · rw [curveValue_between hx hx' hrise]
          have hle := segmentRise_le (a := a) hx'.le
          have hb := (curveValue_bounds (x := y) hrest b _ rfl
            (List.getLast?_eq_some_getLast (List.cons_ne_nil _ _))).1
          omega
        · rw [curveValue_after hab hx']
          exact curveValue_mono hxy hrest

/-- Settles O25, by induction on the points (`curveValue_mono`, `curveValue_bounds`). -/
theorem aGaugeCurveNeverFalls : Obligations.AGaugeCurveNeverFalls := by
  unfold Obligations.AGaugeCurveNeverFalls
  intro c x y hx hy hxy
  have hordered : Curve.Ordered c := ⟨hx, hy⟩
  exact ⟨curveValue_mono hxy hordered, fun first last => curveValue_bounds hordered first last⟩

end Sys2Proof.Machine
end

section
/-! PROOFS. The check: its items, a result recorded, and the step that follows. -/

namespace Sys2Proof.Machine

open Sys2Proof

/-! ### Notices stand -/

theorem noticed_of_or {x y k : NoticeSet} (h : x &&& k = k) : (x ||| y) &&& k = k := by
  rw [BitVec.and_comm, BitVec.and_or_distrib_left, BitVec.and_comm k x, h]
  ext i hi
  simp only [BitVec.getElem_or, BitVec.getElem_and]
  cases k[i] <;> simp

theorem Noticed.notifyAll {k : NoticeKind} {l : Link} {p : Panel} (j : NoticeKind) (h : Noticed k l p) :
    Noticed k l (Machine.notifyAll j p) := by
  have hport : (Machine.notifyAll j p).lnk.ports.get l = (p.lnk.ports.get l).notify j := by
    simp [Machine.notifyAll, Panel.withPorts]
  rw [Noticed, hport]
  exact noticed_of_or h

/-! ### The items (R141, R150) -/

theorem mem_allItems (i : CheckItem) : i ∈ allItems := by
  cases i with
  | lamp l => cases l <;> decide
  | coil g c => cases g <;> cases c <;> decide

theorem Chk.item_setItem_self (c : Chk) (i : CheckItem) (r : ItemRecord) : (c.setItem i r).item i = r := by
  cases i <;> simp [Chk.setItem, Chk.item]

theorem Chk.item_setItem_ne (c : Chk) {i j : CheckItem} (r : ItemRecord) (h : j ≠ i) :
    (c.setItem i r).item j = c.item j := by
  cases i with
  | lamp l =>
    cases j with
    | lamp k => exact PerLamp.get_set_ne _ _ fun hk => h (by rw [hk])
    | coil => rfl
  | coil g a =>
    cases j with
    | lamp => rfl
    | coil k b =>
      by_cases hk : k = g
      · subst hk
        have hb : b ≠ a := fun hb => h (by rw [hb])
        simp only [Chk.setItem, Chk.item, PerGauge.get_set_self, PerCoil.get_set_ne _ _ hb]
      · simp only [Chk.setItem, Chk.item, PerGauge.get_set_ne _ _ hk]

theorem Chk.countFaults_pos {c : Chk} {i : CheckItem} (h : (c.item i).result.isFault = true) : 0 < c.countFaults :=
  List.countP_pos_iff.mpr ⟨i, mem_allItems i, h⟩

/-- R141: the item after `i` in the order of a check. -/
def nextItem : CheckItem → Option CheckItem
  | .lamp l => some (match nextLamp l with
    | some k => .lamp k
    | none => .coil .speedo .sin)
  | .coil g .sin => some (.coil g .cos)
  | .coil g .cos => (nextGauge g).map fun k => .coil k .sin

theorem allItems_next (i : CheckItem) : allItems[itemIndex i + 1]? = nextItem i := by
  cases i with
  | lamp l => cases l <;> rfl
  | coil g c => cases g <;> cases c <;> rfl

theorem nextGauge_ne (g : Gauge) : nextGauge g ≠ some g := by
  cases g <;> decide

/-! ### The next step (R142 to R148) -/

theorem requestHold_get (g k : Gauge) (p : Panel) : (requestHold g p).gdr.gauges.get k = { p.gdr.gauges.get k with
    hold := if k = g ∧ (p.gdr.gauges.get k).hold = .none then .requested else (p.gdr.gauges.get k).hold } := by
  unfold requestHold
  by_cases hk : k = g
  · subst hk
    by_cases hhold : (p.gdr.gauges.get k).hold = .none
    · simp [hhold, Panel.withGauge]
    · simp [hhold]
  · simp only [hk, false_and, if_false]
    split
    · exact PerGauge.get_set_ne _ _ hk
    · rfl

theorem requestHold_gdr (g : Gauge) (p : Panel) :
    (requestHold g p).gdr = { p.gdr with gauges := (requestHold g p).gdr.gauges } := by
  unfold requestHold
  dsimp only
  split <;> rfl

theorem withGauge_reaches (g : Gauge) (r : GaugeRecord) (p : Panel) : Reaches [.gdr] p (p.withGauge g r) :=
  withGdr_reaches _ p

theorem requestHold_reaches (g : Gauge) (p : Panel) : Reaches [.gdr] p (requestHold g p) :=
  .ite (fun _ => withGauge_reaches g _ p) fun _ => .refl _ p

theorem releaseHold_reaches (g : Gauge) (p : Panel) : Reaches [.gdr] p (releaseHold g p) := withGauge_reaches g _ p

/-- R142, R148: the check's own record at the step after `i`. -/
def Chk.advanced (now : Micros) (i : CheckItem) (c : Chk) : Chk :=
  match nextItem i with
  | none => { c with state := .done, currentItem := none, phase := .none, driveTime := none }
  | some (.coil g .sin) => { c with currentItem := some (.coil g .sin), phase := .holdWait, driveTime := none }
  | some j => { c with currentItem := some j, phase := .driven, driveTime := some now }

theorem advanceCheck_chk (i : CheckItem) (p : Panel) :
    (advanceCheck i p).chk = p.chk.advanced p.pcu.timebase i := by
  cases i with
  | lamp l =>
    unfold advanceCheck Chk.advanced nextItem
    dsimp only
    cases nextLamp l with
    | some k => rfl
    | none => exact (requestHold_reaches _ _).chk
  | coil g c =>
    cases c
    case sin => rfl
    case cos =>
      unfold advanceCheck Chk.advanced nextItem
      dsimp only
      cases nextGauge g with
      | some k => exact (requestHold_reaches _ _).chk
      | none => rfl

/-- R146, R147: the gauge's record at the step after `i`. -/
def GaugeRecord.advanced (mode : Mode) (offset : Nat) (i : CheckItem) (g : Gauge) (r : GaugeRecord) : GaugeRecord :=
  match i with
  | .coil k .sin => if g = k then { r with duty := ⟨0, 255⟩ } else r
  | .coil k .cos =>
    if g = k then (GaugeRecord.judgeReturn mode { r with hold := .none }).drive offset
    else { r with hold := if nextGauge k = some g ∧ r.hold = .none then .requested else r.hold }
  | .lamp l => { r with hold := if nextLamp l = none ∧ g = .speedo ∧ r.hold = .none then .requested else r.hold }

theorem releaseHold_get (g k : Gauge) (p : Panel) : (releaseHold g p).gdr.gauges.get k =
    if k = g then (GaugeRecord.judgeReturn p.pmc.mode { p.gdr.gauges.get g with hold := .none }).drive
      (p.gdr.calibration.elecOffset.get g)
    else p.gdr.gauges.get k := by
  unfold releaseHold
  split
  case isTrue h => rw [h]; exact PerGauge.get_set_self ..
  case isFalse h => exact PerGauge.get_set_ne _ _ h

theorem advanceCheck_get (i : CheckItem) (p : Panel) (g : Gauge) : (advanceCheck i p).gdr.gauges.get g =
    (p.gdr.gauges.get g).advanced p.pmc.mode (p.gdr.calibration.elecOffset.get g) i g := by
  cases i with
  | lamp l =>
    unfold advanceCheck GaugeRecord.advanced
    dsimp only
    split
    case h_1 hl =>
      rw [hl]
      simp only [reduceCtorEq, false_and, if_false]
      rfl
    case h_2 hl =>
      rw [hl]
      simp only [true_and]
      exact requestHold_get _ _ _
  | coil k c =>
    cases c
    case sin =>
      refine (driveCoil_get k g .cos p).trans ?_
      unfold GaugeRecord.advanced
      dsimp only
      split
      case isTrue h => rw [h]; rfl
      case isFalse => rfl
    case cos =>
      unfold advanceCheck GaugeRecord.advanced
      dsimp only
      split
      case h_1 k' hk =>
        refine (requestHold_get _ _ _).trans ?_
        simp only [Panel.withChk_gdr, releaseHold_get, hk, Option.some.injEq]
        by_cases hg : g = k
        · have hne : g ≠ k' := fun h => nextGauge_ne k (by rw [hk, ← h, hg])
          simp only [hg, if_true]
          rw [← hg]
          simp only [hne, false_and, if_false]
          rfl
        · simp only [hg, if_false, eq_comm]
      case h_2 hk =>
        refine (releaseHold_get _ _ _).trans ?_
        simp only [hk, reduceCtorEq, false_and, if_false]
        split
        case isTrue h => rw [h]; rfl
        case isFalse => rfl

theorem advanceCheck_gdr (i : CheckItem) (p : Panel) :
    (advanceCheck i p).gdr = { p.gdr with gauges := (advanceCheck i p).gdr.gauges } := by
  cases i with
  | lamp l =>
    unfold advanceCheck
    dsimp only
    split
    · rfl
    · exact requestHold_gdr _ _
  | coil g c =>
    cases c
    case sin => rfl
    case cos =>
      unfold advanceCheck
      dsimp only
      split
      · exact requestHold_gdr _ _
      · rfl

theorem advanceCheck_reaches (i : CheckItem) (p : Panel) : Reaches [.chk, .wrc, .gdr, .lnk] p (advanceCheck i p) := by
  cases i with
  | lamp l =>
    have hend : Reaches [.chk, .wrc] p (settleLamps (p.withChk { p.chk with phase := .none, driveTime := none })) :=
      (settleLamps_reaches _).after (withChk_reaches _ p)
    unfold advanceCheck
    dsimp only
    split
    · exact (settleLamps_reaches _).after (ds := [.chk, .wrc, .gdr, .lnk])
        ((withChk_reaches _ _).after (ds := [.chk, .wrc]) hend)
    · exact (requestHold_reaches _ _).after (ds := [.chk, .wrc, .gdr, .lnk])
        ((withChk_reaches _ _).after (ds := [.chk, .wrc]) hend)
  | coil g c =>
    cases c
    case sin => exact (driveCoil_reaches g .cos p).mono (by decide)
    case cos =>
      have hend : Reaches [.chk, .gdr] p
          (releaseHold g (p.withChk { p.chk with phase := .none, driveTime := none })) :=
        (releaseHold_reaches _ _).after (withChk_reaches _ p)
      unfold advanceCheck
      dsimp only
      split
      · exact (requestHold_reaches _ _).after (ds := [.chk, .wrc, .gdr, .lnk])
          ((withChk_reaches _ _).after (ds := [.chk, .gdr]) hend)
      · exact (notifyAll_reaches _ _).after (ds := [.chk, .wrc, .gdr, .lnk])
          ((withChk_reaches _ _).after (ds := [.chk, .gdr]) hend)

theorem advanceCheck_noticed {k : NoticeKind} {l : Link} {p : Panel} (i : CheckItem) (h : Noticed k l p) :
    Noticed k l (advanceCheck i p) := by
  cases i with
  | lamp a =>
    unfold advanceCheck
    dsimp only
    split
    · exact h
    · rw [Noticed, beginGauge, (requestHold_reaches _ _).lnk]
      exact h
  | coil g c =>
    cases c
    case sin => exact h
    case cos =>
      unfold advanceCheck
      dsimp only
      split
      · rw [Noticed, beginGauge, (requestHold_reaches _ _).lnk]
        exact h
      · exact Noticed.notifyAll .check h

/-- R148: a check that is over tells every link. -/
theorem advanceCheck_done {i : CheckItem} {p : Panel} (h : nextItem i = none) (l : Link) :
    Noticed .check l (advanceCheck i p) := by
  cases i with
  | lamp => exact nomatch h
  | coil g c =>
    cases c
    case sin => exact nomatch h
    case cos =>
      unfold advanceCheck
      dsimp only
      split
      case h_1 hg =>
        rw [nextItem, hg] at h
        exact nomatch h
      case h_2 => exact notifyAll_noticed .check l _

/-! ### The lamps over a step -/

/-- Every lamp is as R115 and R116 have it. -/
def LampsSettled (p : Panel) : Prop := ∀ l, p.wrc.lamps.get l = judgeLamp p l

theorem settleLamps_settled (p : Panel) : LampsSettled (settleLamps p) := fun l => by
  simp only [settleLamps, Panel.withWrc_wrc, PerLamp.get_of]
  simp only [judgeLamp, lampWanted, lampUnderTest, Panel.withWrc_wrc, PerLamp.get_of]
  rfl

/-- What no lamp reads may change. -/
theorem LampsSettled.congr {p q : Panel} (h : LampsSettled p) (hwrc : q.wrc = p.wrc) (hsws : q.sws = p.sws)
    (hpmc : q.pmc = p.pmc) (htest : ∀ l, lampUnderTest q l = lampUnderTest p l) : LampsSettled q := fun l => by
  rw [hwrc, h l]
  simp only [judgeLamp, lampWanted, inputActive, hwrc, hsws, hpmc, htest]

theorem lampUnderTest_of_coil {p : Panel} {g : Gauge} {c : Coil} (h : p.chk.currentItem = some (.coil g c)) (l : Lamp) :
    lampUnderTest p l = false := by
  rw [lampUnderTest, h]
  exact Bool.and_false _

theorem lampUnderTest_of_not_driven {p : Panel} (h : p.chk.phase ≠ .driven) (l : Lamp) :
    lampUnderTest p l = false := by
  rw [lampUnderTest, beq_eq_false_iff_ne.mpr h]
  rfl

/-- R143, R144: the lamps follow the step after `i`. -/
theorem advanceCheck_settled {i : CheckItem} {p : Panel} (h : LampsSettled p) (hi : p.chk.currentItem = some i) :
    LampsSettled (advanceCheck i p) := by
  cases i with
  | lamp l =>
    have hend := settleLamps_settled (p.withChk { p.chk with phase := .none, driveTime := none })
    unfold advanceCheck
    dsimp only
    split
    · exact settleLamps_settled _
    · have hreach := requestHold_reaches .speedo ((settleLamps (p.withChk { p.chk with
        phase := .none, driveTime := none })).withChk { p.chk with
          currentItem := some (.coil .speedo .sin), phase := .holdWait, driveTime := none })
      refine hend.congr hreach.wrc hreach.sws hreach.pmc fun k => ?_
      rw [lampUnderTest_of_coil (g := .speedo) (c := .sin) (by rw [beginGauge, (requestHold_reaches _ _).chk]; rfl),
        lampUnderTest_of_not_driven (show StepPhase.none ≠ .driven by decide)]
  | coil g c =>
    have hreach := advanceCheck_reaches (.coil g c) p
    have hchk := advanceCheck_chk (.coil g c) p
    have hwrc : (advanceCheck (.coil g c) p).wrc = p.wrc := by
      cases c
      case sin => rfl
      case cos =>
        unfold advanceCheck
        dsimp only
        split
        · exact (requestHold_reaches _ _).wrc
        · rfl
    refine h.congr hwrc hreach.sws hreach.pmc fun k => ?_
    rw [lampUnderTest_of_coil hi]
    cases hn : nextItem (.coil g c) with
    | none =>
      refine lampUnderTest_of_not_driven ?_ k
      rw [hchk, Chk.advanced, hn]
      exact show StepPhase.none ≠ .driven by decide
    | some j =>
      cases j with
      | lamp a =>
        cases c
        case sin => exact nomatch hn
        case cos =>
          rw [nextItem] at hn
          cases hg : nextGauge g <;> rw [hg] at hn <;> exact nomatch hn
      | coil g' c' =>
        refine lampUnderTest_of_coil (g := g') (c := c') ?_ k
        rw [hchk, Chk.advanced, hn]
        cases c' <;> rfl

end Sys2Proof.Machine
end

section
/-! PROOFS. The judgement of the warnings stands over a step of the check. -/

namespace Sys2Proof.Machine

open Sys2Proof

/-! ### A judgement stands over a step of the check -/

/-- The lamps may have been settled again, their Blocked unchanged; nothing else of the warnings changed. -/
def LampsOnly (p q : Panel) : Prop :=
  q.wrc = { p.wrc with lamps := q.wrc.lamps } ∧ ∀ l, (q.wrc.lamps.get l).blocked = (p.wrc.lamps.get l).blocked

theorem LampsOnly.of_wrc {p q : Panel} (h : q.wrc = p.wrc) : LampsOnly p q := by
  rw [LampsOnly, h]
  exact ⟨rfl, fun _ => rfl⟩

theorem LampsOnly.trans {p q r : Panel} (h : LampsOnly p q) (k : LampsOnly q r) : LampsOnly p r :=
  ⟨by rw [k.1, h.1], fun l => (k.2 l).trans (h.2 l)⟩

theorem settleLamps_lampsOnly (p : Panel) : LampsOnly p (settleLamps p) :=
  ⟨rfl, fun l => by simp [settleLamps, judgeLamp]⟩

theorem advanceCheck_lampsOnly (i : CheckItem) (p : Panel) : LampsOnly p (advanceCheck i p) := by
  cases i with
  | lamp l =>
    have hend : LampsOnly p (settleLamps (p.withChk { p.chk with phase := .none, driveTime := none })) :=
      settleLamps_lampsOnly (p.withChk { p.chk with phase := .none, driveTime := none })
    unfold advanceCheck
    dsimp only
    split
    · exact hend.trans (settleLamps_lampsOnly (Panel.withChk _ (settleLamps _)))
    · exact hend.trans (.of_wrc (requestHold_reaches _ _).wrc)
  | coil g c =>
    cases c
    case sin => exact .of_wrc rfl
    case cos =>
      unfold advanceCheck
      dsimp only
      split
      · exact .of_wrc (requestHold_reaches _ _).wrc
      · exact .of_wrc rfl

/-- Every port's PRESENT stands. -/
def PresenceKept (p q : Panel) : Prop := ∀ l, (q.lnk.ports.get l).present = (p.lnk.ports.get l).present

theorem notifyAll_presence (k : NoticeKind) (p : Panel) : PresenceKept p (notifyAll k p) := fun l => by
  simp [notifyAll, Panel.withPorts, LinkPort.notify]

theorem advanceCheck_presence (i : CheckItem) (p : Panel) : PresenceKept p (advanceCheck i p) := by
  cases i with
  | lamp l =>
    unfold advanceCheck
    dsimp only
    split
    · exact fun _ => rfl
    · exact fun l => by rw [beginGauge, (requestHold_reaches _ _).lnk]; rfl
  | coil g c =>
    cases c
    case sin => exact fun _ => rfl
    case cos =>
      unfold advanceCheck
      dsimp only
      split
      · exact fun l => by rw [beginGauge, (requestHold_reaches _ _).lnk]; rfl
      · exact fun l => notifyAll_presence .check _ l

/-- What the tests of a warning kind read stands. -/
structure TestsKept (p q : Panel) : Prop where
  reaches : Reaches [.chk, .wrc, .gdr, .lnk] p q
  lamps : LampsOnly p q
  present : PresenceKept p q
  indication : q.chk.faultIndication = p.chk.faultIndication

section
variable {p q : Panel} (h : TestsKept p q)
include h

theorem TestsKept.active (k : WarningKind) : kindActive q k = kindActive p k := by
  simp only [kindActive, h.reaches.nvs, h.reaches.pmc]

theorem TestsKept.levels : q.wrc.levels = p.wrc.levels := by rw [h.lamps.1]

theorem TestsKept.set_iff (k : WarningKind) : SetTest q k ↔ SetTest p k := by
  have hfront := h.present .front
  have hrear := h.present .rear
  have hbelt : q.wrc.beltWindow = p.wrc.beltWindow := by rw [h.lamps.1]
  have hset : q.wrc.overspeedSetpoint = p.wrc.overspeedSetpoint := by rw [h.lamps.1]
  have hgrace : q.wrc.linkGraceTimer = p.wrc.linkGraceTimer := by rw [h.lamps.1]
  simp only [PerLink.get] at hfront hrear
  cases k <;> simp only [SetTest, inputActive, h.reaches.pcu, h.reaches.sws, h.reaches.adc, h.reaches.dfa,
    h.reaches.trc, h.reaches.svm, h.reaches.nvs, h.reaches.pmc, h.levels, h.indication, hbelt, hset, hgrace, hfront,
    hrear]

theorem TestsKept.clear_iff (k : WarningKind) : ClearTest q k ↔ ClearTest p k := by
  have hset : q.wrc.overspeedSetpoint = p.wrc.overspeedSetpoint := by rw [h.lamps.1]
  cases k
  case overheat => simp only [ClearTest, h.reaches.adc, h.reaches.nvs]
  case doorMoving => simp only [ClearTest, inputActive, h.reaches.sws, h.reaches.pcu]
  case overspeed => simp only [ClearTest, hset, h.reaches.pcu]
  case lowFuel => simp only [ClearTest, h.reaches.dfa, h.reaches.nvs, h.reaches.trc]
  all_goals exact not_congr (h.set_iff _)

/-- A judgement of the warnings stands where the tests, the entries, the players and the notices stand. -/
theorem JudgedFrom.of_kept {w : Wrc} (hw : JudgedFrom w p) (hlamps : LampsSettled q)
    (hnotices : ∀ l, Noticed .warnings l p → Noticed .warnings l q) : JudgedFrom w q := by
  have hentry : ∀ k, q.wrc.entry k = p.wrc.entry k := fun k => by rw [h.lamps.1]; rfl
  have hplayers : ∀ sd, q.wrc.players.get sd = p.wrc.players.get sd := fun sd => by rw [h.lamps.1]
  have hfollows : ∀ sd pl, Player.follows w q.wrc sd pl = Player.follows w p.wrc sd pl := fun sd pl => by
    rw [h.lamps.1]
    rfl
  refine ⟨?_, ?_, fun k hk => ?_, fun k => ?_, fun k => ?_, fun k => ?_, fun k => ?_, fun sd => ?_, fun l => ?_, ?_⟩
  · rw [h.active, h.levels, h.reaches.adc, h.reaches.pcu]
    exact hw.batteryLow
  · rw [h.active, h.levels, h.reaches.adc]
    exact hw.batteryHigh
  · have hlevel := hw.level k hk
    simp only [LevelJudged, h.active, h.levels, h.set_iff, h.clear_iff] at hlevel ⊢
    exact hlevel
  · rw [h.levels, hentry, h.reaches.svm]
    exact hw.risen k
  · rw [h.levels, hentry]
    exact hw.fallen k
  · rw [h.levels, hentry]
    exact hw.kept k
  · rw [hentry]
    exact fun hne l => hnotices l (hw.noticed k hne l)
  · rw [hplayers, hfollows]
    exact hw.players sd
  · have hblocked : (q.wrc.lamps.get l).blocked = (w.lamps.get l).blocked := by
      rw [h.lamps.2 l, hw.lamps l]
    rw [hlamps l, judgeLamp, hblocked]
  · have hrest := hw.rest
    rw [h.lamps.1]
    dsimp only
    rw [hrest]

end

/-- A judgement reads nothing of the lamps that were but their Blocked. -/
theorem JudgedFrom.of_blocked {w v : Wrc} {q : Panel} (h : JudgedFrom w q) (hv : v = { w with lamps := v.lamps })
    (hblocked : ∀ l, (v.lamps.get l).blocked = (w.lamps.get l).blocked) : JudgedFrom v q := by
  have hlevels : v.levels = w.levels := by rw [hv]
  have hentry : ∀ k, v.entry k = w.entry k := fun k => by rw [hv]; rfl
  have hraised : ∀ t k, raisedEntry v t k = raisedEntry w t k := fun t k => by rw [hv]; rfl
  have hplayers : ∀ sd, v.players.get sd = w.players.get sd := fun sd => by rw [hv]
  have hfollows : ∀ sd pl, Player.follows v q.wrc sd pl = Player.follows w q.wrc sd pl := fun sd pl => by
    rw [hv]
    rfl
  refine ⟨?_, ?_, fun k hk => ?_, fun k => ?_, fun k => ?_, fun k => ?_, fun k => ?_, fun sd => ?_, fun l => ?_, ?_⟩
  · rw [hlevels]
    exact h.batteryLow
  · rw [hlevels]
    exact h.batteryHigh
  · rw [hlevels]
    exact h.level k hk
  · rw [hlevels, hraised]
    exact h.risen k
  · rw [hlevels]
    exact h.fallen k
  · rw [hlevels, hentry]
    exact h.kept k
  · rw [hentry]
    exact h.noticed k
  · rw [hplayers, hfollows]
    exact h.players sd
  · rw [hblocked]
    exact h.lamps l
  · rw [hv]
    exact h.rest

theorem JudgedFrom.settled {w : Wrc} {q : Panel} (h : JudgedFrom w q) : LampsSettled q := fun l => by
  have hl := h.lamps l
  rw [judgeLamp, hl]

theorem Chk.advanced_keeps (now : Micros) (i : CheckItem) (c : Chk) : c.advanced now i = { c with
    state := (c.advanced now i).state, currentItem := (c.advanced now i).currentItem
    phase := (c.advanced now i).phase, driveTime := (c.advanced now i).driveTime } := by
  unfold Chk.advanced
  split <;> rfl

theorem advanceCheck_kept (i : CheckItem) (p : Panel) : TestsKept p (advanceCheck i p) where
  reaches := advanceCheck_reaches i p
  lamps := advanceCheck_lampsOnly i p
  present := advanceCheck_presence i p
  indication := by rw [advanceCheck_chk, Chk.advanced_keeps]

theorem JudgedFrom.advance {w : Wrc} {p : Panel} {i : CheckItem} (h : JudgedFrom w p)
    (hi : p.chk.currentItem = some i) : JudgedFrom w (advanceCheck i p) :=
  h.of_kept (advanceCheck_kept i p) (advanceCheck_settled h.settled hi) fun _ => advanceCheck_noticed i

end Sys2Proof.Machine
end

section
/-! PROOFS. The driver's overload and the SENSE reading: a result recorded, and the step that follows it. -/

namespace Sys2Proof.Machine

open Sys2Proof

/-! ### A result recorded (R149 to R151) -/

theorem Chk.item_advanced (now : Micros) (i j : CheckItem) (c : Chk) : (c.advanced now i).item j = c.item j := by
  rw [Chk.advanced_keeps]
  rfl

theorem Chk.countFaults_advanced (now : Micros) (i : CheckItem) (c : Chk) :
    (c.advanced now i).countFaults = c.countFaults := by
  rw [Chk.advanced_keeps]
  rfl

theorem deliverResult_reaches (i : CheckItem) (r : CheckResult) (p : Panel) :
    Reaches [.wrc, .gdr] p (deliverResult i r p) := by
  cases i with
  | lamp l => exact (settleLamps_reaches _).after (ds := [.wrc, .gdr]) (withWrc_reaches _ p)
  | coil g c => exact (withGauge_reaches g _ p).mono (by decide)

/-- The result delivered, before the fault indication is judged. -/
def resultDelivered (i : CheckItem) (r : ItemRecord) (p : Panel) : Panel :=
  deliverResult i r.result (p.withChk (p.chk.setItem i r).counted)

theorem resultDelivered_reaches (i : CheckItem) (r : ItemRecord) (p : Panel) :
    Reaches [.chk, .wrc, .gdr] p (resultDelivered i r p) :=
  (deliverResult_reaches i r.result _).after (withChk_reaches _ p)

theorem resultDelivered_chk (i : CheckItem) (r : ItemRecord) (p : Panel) :
    (resultDelivered i r p).chk = (p.chk.setItem i r).counted := (deliverResult_reaches i r.result _).chk

theorem recordResult_reaches (i : CheckItem) (r : ItemRecord) (p : Panel) :
    Reaches [.chk, .wrc, .gdr, .lnk] p (recordResult i r p) :=
  (judgeFaultIndication_reaches _).after (resultDelivered_reaches i r p)

theorem withFaults_chk (p : Panel) : p.withFaults.chk =
    { p.chk with faultIndication := if p.nvs.recoveryDone then faultTerms p else p.chk.faultIndication } := by
  unfold Panel.withFaults
  split <;> rfl

theorem withFaults_wrc (p : Panel) : p.withFaults.wrc = p.wrc := by
  unfold Panel.withFaults
  split <;> rfl

theorem faultTerms_congr {p q : Panel} (hcount : q.chk.faultCount = p.chk.faultCount) (hadc : q.adc = p.adc)
    (hnvs : q.nvs = p.nvs) (hdfa : q.dfa = p.dfa) : faultTerms q = faultTerms p := by
  have hsender : senderFault q = senderFault p := funext fun sd => by rw [senderFault, senderFault, hadc]
  simp only [faultTerms, hcount, hsender, hnvs, hdfa]

theorem recordResult_chk (i : CheckItem) (r : ItemRecord) (p : Panel) : (recordResult i r p).chk =
    { (p.chk.setItem i r).counted with faultIndication :=
        if p.nvs.recoveryDone then faultTerms (recordResult i r p) else p.chk.faultIndication } := by
  have hchk : (recordResult i r p).chk = (resultDelivered i r p).withFaults.chk :=
    (judgeFaultIndication_reach (resultDelivered i r p)).chk
  have hreach := judgeFaultIndication_reaches (resultDelivered i r p)
  have hdelivered := resultDelivered_reaches i r p
  have hterms : faultTerms (recordResult i r p) = faultTerms (resultDelivered i r p) :=
    faultTerms_congr (by rw [hchk, withFaults_chk]) hreach.adc hreach.nvs hreach.dfa
  rw [hchk, withFaults_chk, resultDelivered_chk, hterms, hdelivered.nvs]
  cases i <;> rfl

theorem recordResult_item_self (i : CheckItem) (r : ItemRecord) (p : Panel) : (recordResult i r p).chk.item i = r := by
  rw [recordResult_chk]
  exact p.chk.item_setItem_self i r

theorem recordResult_item_ne {i j : CheckItem} (r : ItemRecord) (p : Panel) (h : j ≠ i) :
    (recordResult i r p).chk.item j = p.chk.item j := by
  rw [recordResult_chk]
  exact p.chk.item_setItem_ne r h

theorem recordResult_faultCount (i : CheckItem) (r : ItemRecord) (p : Panel) :
    (recordResult i r p).chk.faultCount = (recordResult i r p).chk.countFaults := by
  rw [recordResult_chk]
  rfl

/-- The check's own step stands over a result. -/
theorem recordResult_step (i : CheckItem) (r : ItemRecord) (p : Panel) :
    (recordResult i r p).chk.state = p.chk.state ∧ (recordResult i r p).chk.currentItem = p.chk.currentItem ∧
      (recordResult i r p).chk.phase = p.chk.phase ∧ (recordResult i r p).chk.driveTime = p.chk.driveTime := by
  rw [recordResult_chk]
  cases i <;> exact ⟨rfl, rfl, rfl, rfl⟩

theorem recordResult_gdr (i : CheckItem) (r : ItemRecord) (p : Panel) :
    (recordResult i r p).gdr = { p.gdr with gauges := (recordResult i r p).gdr.gauges } := by
  have hgdr : (recordResult i r p).gdr = (resultDelivered i r p).gdr := (judgeFaultIndication_reaches _).gdr
  rw [hgdr]
  cases i <;> rfl

/-- R82, R83: a gauge's record after a result of `i`. -/
def GaugeRecord.resulted (i : CheckItem) (fault : Bool) (g : Gauge) (r : GaugeRecord) : GaugeRecord :=
  match i with
  | .lamp _ => r
  | .coil k c => if g = k then r.takeResult c fault else r

theorem GaugeRecord.resulted_self (g : Gauge) (c : Coil) (fault : Bool) (r : GaugeRecord) :
    r.resulted (.coil g c) fault g = r.takeResult c fault := if_pos rfl

theorem GaugeRecord.resulted_other {i : CheckItem} {g : Gauge} (h : ∀ c, i ≠ .coil g c) (fault : Bool)
    (r : GaugeRecord) : r.resulted i fault g = r := by
  cases i with
  | lamp => rfl
  | coil k c => exact if_neg fun hg => h c (by rw [hg])

theorem recordResult_get (i : CheckItem) (r : ItemRecord) (p : Panel) (g : Gauge) :
    (recordResult i r p).gdr.gauges.get g = (p.gdr.gauges.get g).resulted i r.result.isFault g := by
  have hgdr : (recordResult i r p).gdr = (resultDelivered i r p).gdr := (judgeFaultIndication_reaches _).gdr
  rw [hgdr]
  cases i with
  | lamp => rfl
  | coil k c =>
    unfold GaugeRecord.resulted
    dsimp only
    split
    case isTrue h => rw [h]; exact PerGauge.get_set_self ..
    case isFalse h => exact PerGauge.get_set_ne _ _ h

/-- R151: a lamp's Blocked after a result of its own. -/
def CheckResult.blocks (r : CheckResult) (old : Bool) : Bool :=
  match r with
  | .short => true
  | .normal => false
  | _ => old

/-- The lamps' Blocked after a result of `i`. -/
def blockedBy (i : CheckItem) (r : CheckResult) (w : Wrc) : PerLamp LampState :=
  match i with
  | .lamp l => w.lamps.set l { w.lamps.get l with blocked := r.blocks (w.lamps.get l).blocked }
  | .coil _ _ => w.lamps

/-- The warnings are judged on the result, the lamps settled with its Blocked. -/
theorem recordResult_judged (i : CheckItem) (r : ItemRecord) (p : Panel) :
    JudgedFrom { p.wrc with lamps := blockedBy i r.result p.wrc } (recordResult i r p) := by
  have hjudged := (judgeFaultIndication_reach (resultDelivered i r p)).2.1
  rw [withFaults_wrc] at hjudged
  cases i with
  | lamp l =>
    refine hjudged.of_blocked rfl fun k => ?_
    simp only [resultDelivered, deliverResult, lampResult, blockedBy, settleLamps, Panel.withWrc_wrc, PerLamp.get_of,
      judgeLamp, Panel.withChk_wrc]
    rfl
  | coil g c => exact hjudged

theorem recordResult_blocked (l : Lamp) (r : ItemRecord) (p : Panel) :
    ((recordResult (.lamp l) r p).wrc.lamps.get l).blocked = r.result.blocks (p.wrc.lamps.get l).blocked := by
  rw [(recordResult_judged (.lamp l) r p).lamps l]
  simp only [blockedBy, PerLamp.get_set_self]

theorem advanceCheck_blocked (i : CheckItem) (l : Lamp) (p : Panel) :
    ((advanceCheck i p).wrc.lamps.get l).blocked = (p.wrc.lamps.get l).blocked := (advanceCheck_lampsOnly i p).2 l

end Sys2Proof.Machine
end

section
/-! PROOFS. The driver's overload and the SENSE reading, settled. -/

namespace Sys2Proof.Machine

open Sys2Proof

/-! ### A gauge under its own result -/

theorem GaugeRecord.judgeReturn_of_faulted {mode : Mode} {r : GaugeRecord}
    (h : r.faulted.sin = true ∨ r.faulted.cos = true) : r.judgeReturn mode = r := by
  refine if_neg fun ⟨_, hsin, hcos⟩ => ?_
  rcases h with h | h
  · exact absurd (h.symm.trans hsin) (by decide)
  · exact absurd (h.symm.trans hcos) (by decide)

theorem GaugeRecord.judgeReturn_of_enabled {mode : Mode} {r : GaugeRecord} (h : r.phase ≠ .disabled) :
    r.judgeReturn mode = r := if_neg fun hc => h hc.1

theorem faulted_or_of_get {f : PerCoil Bool} {c : Coil} (h : f.get c = true) : f.sin = true ∨ f.cos = true := by
  cases c
  · exact .inl h
  · exact .inr h

/-- R82: a gauge with a faulted coil stays DISABLED over the step that follows. -/
theorem GaugeRecord.advanced_of_faulted {mode : Mode} {offset : Nat} {g : Gauge} {c d : Coil} {r : GaugeRecord}
    (hphase : r.phase = .disabled) (hf : r.faulted.get d = true) :
    (r.advanced mode offset (.coil g c) g).phase = .disabled ∧
      (r.advanced mode offset (.coil g c) g).faulted = r.faulted ∧
      (r.advanced mode offset (.coil g c) g).duty = match c with | .sin => ⟨0, 255⟩ | .cos => ⟨0, 0⟩ := by
  cases c
  case sin =>
    have hadv : r.advanced mode offset (.coil g .sin) g = { r with duty := ⟨0, 255⟩ } := if_pos rfl
    rw [hadv]
    exact ⟨hphase, rfl, rfl⟩
  case cos =>
    have hadv : r.advanced mode offset (.coil g .cos) g =
        (GaugeRecord.judgeReturn mode { r with hold := .none }).drive offset := if_pos rfl
    rw [hadv, GaugeRecord.judgeReturn_of_faulted (by exact faulted_or_of_get hf)]
    exact ⟨hphase, rfl, (GaugeRecord.drive_duty _ _).trans (if_pos (.inr hphase))⟩

/-- A gauge that is not under the result's item: its hold is requested when its sin coil is next. -/
theorem GaugeRecord.advanced_other {mode : Mode} {offset : Nat} {i : CheckItem} {g : Gauge} {r : GaugeRecord}
    (h : ∀ c, i ≠ .coil g c) : r.advanced mode offset i g = { r with
      hold := if nextItem i = some (.coil g .sin) ∧ r.hold = .none then .requested else r.hold } := by
  cases i with
  | lamp l =>
    simp only [GaugeRecord.advanced, nextItem, Option.some.injEq]
    cases nextLamp l with
    | none => simp only [CheckItem.coil.injEq, and_true, true_and, eq_comm]
    | some k => simp only [reduceCtorEq, false_and]
  | coil k c =>
    have hne : g ≠ k := fun hg => h c (by rw [hg])
    cases c
    case sin => simp [GaugeRecord.advanced, nextItem, hne]
    case cos => simp [GaugeRecord.advanced, nextItem, hne]

theorem Chk.advanced_currentItem (now : Micros) (i : CheckItem) (c : Chk) :
    (c.advanced now i).currentItem = nextItem i := by
  unfold Chk.advanced
  split
  case h_1 h => exact h.symm
  case h_2 h => exact h.symm
  case h_3 h => exact h.symm

/-- R142, R148: what the check does after `i`. -/
theorem Chk.advanced_cases (now : Micros) (i : CheckItem) (c : Chk) :
    match nextItem i with
    | none => (c.advanced now i).state = .done ∧ (c.advanced now i).phase = .none
    | some (.coil _ .sin) => (c.advanced now i).state = c.state ∧ (c.advanced now i).phase = .holdWait
    | some _ => (c.advanced now i).state = c.state ∧ (c.advanced now i).phase = .driven ∧
        (c.advanced now i).driveTime = some now := by
  unfold Chk.advanced
  cases nextItem i with
  | none => exact ⟨rfl, rfl⟩
  | some j =>
    cases j with
    | lamp => exact ⟨rfl, rfl, rfl⟩
    | coil g c =>
      cases c
      case sin => exact ⟨rfl, rfl⟩
      case cos => exact ⟨rfl, rfl, rfl⟩

/-! ### The overload (R151 to R153) -/

/-- The part after an overload's result, before its step ends. -/
def overloadRecorded (i : CheckItem) (p : Panel) : Panel :=
  notifyAll .check (recordResult i ⟨.short, none, .overload⟩ p)

theorem driverOverload_eq (i : CheckItem) (p : Panel) : driverOverload i p =
    if underTest p i then advanceCheck i (overloadRecorded i p) else overloadRecorded i p := rfl

theorem overloadRecorded_chk (i : CheckItem) (p : Panel) :
    (overloadRecorded i p).chk = (recordResult i ⟨.short, none, .overload⟩ p).chk := rfl

theorem overloadRecorded_reaches (i : CheckItem) (p : Panel) :
    Reaches [.chk, .wrc, .gdr, .lnk] p (overloadRecorded i p) :=
  (notifyAll_reaches _ _).after (recordResult_reaches i _ p)

theorem Reaches.eq_check {p q : Panel} (h : Reaches [.chk, .wrc, .gdr, .lnk] p q) :
    q = { p with chk := q.chk, wrc := q.wrc, gdr := q.gdr, lnk := q.lnk } :=
  h.eq_of_reaches (r := { p with chk := q.chk, wrc := q.wrc, gdr := q.gdr, lnk := q.lnk })
    ⟨rfl, fun b hb => by cases b <;> simp_all [Block.Stands]⟩ (by
      simp only [List.mem_cons, List.not_mem_nil, or_false, forall_eq_or_imp, forall_eq]
      exact ⟨rfl, rfl, rfl, rfl⟩)

/-- What an overload records, whatever the check does next. -/
structure OverloadTaken (i : CheckItem) (p q : Panel) : Prop where
  reaches : Reaches [.chk, .wrc, .gdr, .lnk] p q
  chk : q.chk = { (recordResult i ⟨.short, none, .overload⟩ p).chk with
    state := q.chk.state, currentItem := q.chk.currentItem, phase := q.chk.phase, driveTime := q.chk.driveTime }
  noticed : ∀ l, Noticed .check l q
  blocked : ∀ l, i = .lamp l → (q.wrc.lamps.get l).blocked = true
  disabled : ∀ g c, i = .coil g c →
    (q.gdr.gauges.get g).faulted.get c = true ∧ (q.gdr.gauges.get g).phase = .disabled

theorem overloadRecorded_get (g : Gauge) (c : Coil) (p : Panel) :
    (overloadRecorded (.coil g c) p).gdr.gauges.get g = (p.gdr.gauges.get g).takeResult c true :=
  (recordResult_get (.coil g c) ⟨.short, none, .overload⟩ p g).trans (GaugeRecord.resulted_self ..)

theorem GaugeRecord.takeResult_faulted (c : Coil) (r : GaugeRecord) : (r.takeResult c true).faulted.get c = true :=
  PerCoil.get_set_self ..

theorem overloadRecorded_taken (i : CheckItem) (p : Panel) : OverloadTaken i p (overloadRecorded i p) where
  reaches := overloadRecorded_reaches i p
  chk := rfl
  noticed := fun l => notifyAll_noticed .check l _
  blocked := by
    rintro l rfl
    exact recordResult_blocked l _ p
  disabled := by
    rintro g c rfl
    rw [overloadRecorded_get]
    exact ⟨GaugeRecord.takeResult_faulted c _, rfl⟩

theorem overloadAdvanced_taken (i : CheckItem) (p : Panel) :
    OverloadTaken i p (advanceCheck i (overloadRecorded i p)) where
  reaches := (advanceCheck_reaches i _).after (overloadRecorded_reaches i p)
  chk := by
    rw [advanceCheck_chk, Chk.advanced_keeps]
    rfl
  noticed := fun l => advanceCheck_noticed i (notifyAll_noticed .check l _)
  blocked := by
    rintro l rfl
    rw [advanceCheck_blocked]
    exact (overloadRecorded_taken (.lamp l) p).blocked l rfl
  disabled := by
    rintro g c rfl
    obtain ⟨hf, hphase⟩ := (overloadRecorded_taken (.coil g c) p).disabled g c rfl
    have hstill := GaugeRecord.advanced_of_faulted (mode := (overloadRecorded (.coil g c) p).pmc.mode)
      (offset := (overloadRecorded (.coil g c) p).gdr.calibration.elecOffset.get g) (g := g) (c := c) hphase hf
    rw [advanceCheck_get, hstill.1, hstill.2.1]
    exact ⟨hf, rfl⟩

theorem driverOverload_taken (i : CheckItem) (p : Panel) : OverloadTaken i p (driverOverload i p) := by
  rw [driverOverload_eq]
  split
  · exact overloadAdvanced_taken i p
  · exact overloadRecorded_taken i p

/-- Settles O26: what the overload records (`OverloadTaken`), and, of the item under test, the step that follows. -/
theorem anOverloadRecordsAShort : Obligations.AnOverloadRecordsAShort := by
  unfold Obligations.AnOverloadRecordsAShort
  intro s i hp
  have htaken := driverOverload_taken i s.toPanel
  have hchk := htaken.chk
  have hitem : ∀ j, (driverOverload i s.toPanel).chk.item j =
      (recordResult i ⟨.short, none, .overload⟩ s.toPanel).chk.item j := fun j => by rw [hchk]; rfl
  refine ⟨_, exec_eq_effect hp, htaken.reaches.eq_check, ?_, fun j hj => ?_, ?_, ?_, htaken.noticed, ?_, ?_, ?_⟩
  · exact (hitem i).trans (recordResult_item_self i _ _)
  · exact (hitem j).trans (recordResult_item_ne _ _ hj)
  · rw [commandEffect, hchk]
    exact recordResult_faultCount i _ _
  · rw [commandEffect, hchk]
    dsimp only
    rw [recordResult_chk]
    dsimp only
    have hterms : faultTerms (recordResult i ⟨.short, none, .overload⟩ s.toPanel) = true := by
      have hpos : 0 < (recordResult i ⟨.short, none, .overload⟩ s.toPanel).chk.faultCount := by
        rw [recordResult_faultCount]
        exact Chk.countFaults_pos (i := i) (by rw [recordResult_item_self]; rfl)
      simp only [faultTerms, decide_eq_true hpos, Bool.true_or]
    rw [hterms]
  · cases i with
    | lamp l => exact htaken.blocked l rfl
    | coil g c => exact htaken.disabled g c rfl
  · intro hnot
    have heq : driverOverload i s.toPanel = overloadRecorded i s.toPanel := by
      rw [driverOverload_eq, hnot]
      rfl
    rw [commandEffect, heq, overloadRecorded_chk]
    obtain ⟨hstate, hcurrent, hphase, hdrive⟩ := recordResult_step i ⟨.short, none, .overload⟩ s.toPanel
    refine ⟨hstate, hcurrent, hphase, hdrive, fun h hother => ?_, ?_⟩
    · refine (recordResult_get i _ _ h).trans ?_
      cases i with
      | lamp => rfl
      | coil g c => exact if_neg fun hg => hother c (by rw [hg])
    · rintro g c rfl
      rw [overloadRecorded_get]
      rfl
  · intro hdriven hcurrent
    have heq : driverOverload i s.toPanel = advanceCheck i (overloadRecorded i s.toPanel) := by
      have htest : underTest s.toPanel i = true := by
        rw [underTest, hdriven, hcurrent]
        simp
      rw [driverOverload_eq, htest]
      rfl
    have hstep := recordResult_step i ⟨.short, none, .overload⟩ s.toPanel
    have hpcu : (overloadRecorded i s.toPanel).pcu = s.pcu := (overloadRecorded_reaches i s.toPanel).pcu
    have hcases := Chk.advanced_cases s.pcu.timebase i (overloadRecorded i s.toPanel).chk
    rw [commandEffect, heq, advanceCheck_chk, Chk.advanced_currentItem, hpcu]
    refine ⟨(allItems_next i).symm, ?_, ?_⟩
    · rw [overloadRecorded_chk, hstep.1] at hcases
      exact hcases
    · rintro g c rfl
      obtain ⟨hf, hphase⟩ := (overloadRecorded_taken (.coil g c) s.toPanel).disabled g c rfl
      rw [advanceCheck_get]
      exact (GaugeRecord.advanced_of_faulted hphase hf).2.2

/-! ### The SENSE reading (R144 to R148) -/

theorem senseResult_isFault (r : Byte) :
    (senseResult r).isFault = decide (r.toNat ≤ 19 ∨ 239 < r.toNat) := by
  unfold senseResult
  split
  case isTrue h => exact (decide_eq_true (Or.inl h)).symm
  case isFalse h =>
    split
    case isTrue h' => exact (decide_eq_false (by omega)).symm
    case isFalse h' => exact (decide_eq_true (Or.inr (by omega))).symm

theorem senseResult_blocks (r : Byte) (old : Bool) :
    (senseResult r).blocks old = if r.toNat ≤ 19 then old else decide (239 < r.toNat) := by
  unfold senseResult
  split
  case isTrue => rfl
  case isFalse =>
    split
    case isTrue h' => exact (decide_eq_false (by omega)).symm
    case isFalse h' => exact (decide_eq_true (by omega)).symm

theorem senseReading_of_driven {p : Panel} {i : CheckItem} {drive : Micros} (hphase : p.chk.phase = .driven)
    (hcurrent : p.chk.currentItem = some i) (hdrive : p.chk.driveTime = some drive) (r : Byte) (started : Micros) :
    senseReading r started p = if 8000 ≤ elapsed drive started ∧ elapsed drive started < 8388608 then
      advanceCheck i (recordResult i ⟨senseResult r, some r, .step⟩ p) else p := by
  simp only [senseReading, hphase, hcurrent, hdrive, ofStep, Bool.and_eq_true, decide_eq_true_eq]
  rfl

theorem senseReading_reaches (r : Byte) (started : Micros) (p : Panel) :
    Reaches [.chk, .wrc, .gdr, .lnk] p (senseReading r started p) := by
  unfold senseReading
  split
  · exact .ite (fun _ => (advanceCheck_reaches _ _).after (recordResult_reaches _ _ p)) fun _ => .refl _ p
  · exact .refl _ p

/-- R81, R147: a gauge after the result of its sin coil. -/
theorem GaugeRecord.sinTested (mode : Mode) (offset : Nat) (g : Gauge) (fault : Bool) (r : GaugeRecord) :
    (r.takeResult .sin fault).advanced mode offset (.coil g .sin) g =
      { r with
        faulted := { r.faulted with sin := fault }
        phase := if fault then .disabled else r.phase, duty := ⟨0, 255⟩ } := by
  refine (if_pos rfl).trans ?_
  cases fault <;> rfl

/-- R81, R84, R147: a gauge after the result of its cos coil, its hold released. -/
theorem GaugeRecord.cosTested (mode : Mode) (offset : Nat) (g : Gauge) (fault : Bool) (r : GaugeRecord) :
    (r.takeResult .cos fault).advanced mode offset (.coil g .cos) g =
      (GaugeRecord.judgeReturn mode { r.takeResult .cos fault with hold := .none }).drive offset := if_pos rfl

theorem GaugeRecord.judgeReturn_only (mode : Mode) (r : GaugeRecord) :
    r.judgeReturn mode = { r with phase := (r.judgeReturn mode).phase } := by
  unfold GaugeRecord.judgeReturn
  split
  · cases mode <;> rfl
  · rfl

theorem GaugeRecord.cosTested_eq {mode : Mode} {offset : Nat} {g : Gauge} {fault : Bool} {old new : GaugeRecord}
    (h : new = (old.takeResult .cos fault).advanced mode offset (.coil g .cos) g) :
    new = { old with
      faulted := { old.faulted with cos := fault }, hold := .none, phase := new.phase
      duty := match new.phase with
        | .parked | .disabled => ⟨0, 0⟩
        | _ => coilDuties (electricalAngle old.current offset) } ∧
    (fault = true → new.phase = .disabled) ∧
    (fault = false → (old.phase ≠ .disabled ∨ old.faulted.sin = true) → new.phase = old.phase) ∧
    (fault = false → old.phase = .disabled → old.faulted.sin = false →
      (mode = .run → new.phase = .tracking) ∧ (mode = .shutdown → new.phase = .parking)) := by
  rw [GaugeRecord.cosTested] at h
  refine ⟨?_, fun hfault => ?_, fun hfault hstay => ?_, fun hfault hphase hsin => ⟨fun hmode => ?_, fun hmode => ?_⟩⟩
  · have hret := GaugeRecord.judgeReturn_only mode { old.takeResult .cos fault with hold := .none }
    rw [hret] at h
    rw [h]
    cases fault <;> rfl
  · subst hfault
    rw [h, GaugeRecord.drive_phase, GaugeRecord.judgeReturn_of_faulted (.inr rfl)]
    rfl
  · subst hfault
    rw [h, GaugeRecord.drive_phase]
    rcases hstay with hphase | hsin
    · rw [GaugeRecord.judgeReturn_of_enabled (by exact hphase)]
      rfl
    · rw [GaugeRecord.judgeReturn_of_faulted (.inl (by exact hsin))]
      rfl
  · subst hfault
    subst hmode
    rw [h, GaugeRecord.drive_phase, GaugeRecord.judgeReturn, if_pos ⟨hphase, hsin, rfl⟩]
  · subst hfault
    subst hmode
    rw [h, GaugeRecord.drive_phase, GaugeRecord.judgeReturn, if_pos ⟨hphase, hsin, rfl⟩]

/-- The check's step ended by the record `rec` of its item `i`. -/
structure StepEnded (i : CheckItem) (rec : ItemRecord) (p q : Panel) : Prop where
  itemSelf : q.chk.item i = rec
  itemOther : ∀ j, j ≠ i → q.chk.item j = p.chk.item j
  counted : q.chk.faultCount = q.chk.countFaults
  next : q.chk.currentItem = nextItem i
  indication : q.chk.faultIndication = if p.nvs.recoveryDone then faultTerms q else p.chk.faultIndication
  judged : JudgedFrom { p.wrc with lamps := blockedBy i rec.result p.wrc } q
  gdr : q.gdr = { p.gdr with gauges := q.gdr.gauges }
  gauge : ∀ g, q.gdr.gauges.get g = GaugeRecord.advanced p.pmc.mode (p.gdr.calibration.elecOffset.get g) i g
    ((p.gdr.gauges.get g).resulted i rec.result.isFault g)
  follows : match nextItem i with
    | none => q.chk.state = .done ∧ q.chk.phase = .none ∧ ∀ l, Noticed .check l q
    | some (.coil _ .sin) => q.chk.state = p.chk.state ∧ q.chk.phase = .holdWait
    | some _ => q.chk.state = p.chk.state ∧ q.chk.phase = .driven ∧ q.chk.driveTime = some p.pcu.timebase

theorem stepEnded_of_driven {i : CheckItem} {p : Panel} (rec : ItemRecord) (hcurrent : p.chk.currentItem = some i) :
    StepEnded i rec p (advanceCheck i (recordResult i rec p)) where
  itemSelf := by rw [advanceCheck_chk, Chk.item_advanced, recordResult_item_self]
  itemOther := fun j hj => by rw [advanceCheck_chk, Chk.item_advanced, recordResult_item_ne _ _ hj]
  counted := by
    rw [advanceCheck_chk, Chk.countFaults_advanced, Chk.advanced_keeps]
    exact recordResult_faultCount i rec p
  next := by rw [advanceCheck_chk, Chk.advanced_currentItem]
  indication := by
    have hreach := advanceCheck_reaches i (recordResult i rec p)
    have hterms : faultTerms (advanceCheck i (recordResult i rec p)) = faultTerms (recordResult i rec p) :=
      faultTerms_congr (by rw [advanceCheck_chk, Chk.advanced_keeps]) hreach.adc hreach.nvs hreach.dfa
    rw [hterms, advanceCheck_chk, Chk.advanced_keeps]
    dsimp only
    rw [recordResult_chk]
  judged := (recordResult_judged i rec p).advance ((recordResult_step i rec p).2.1.trans hcurrent)
  gdr := by rw [advanceCheck_gdr, recordResult_gdr]
  gauge := fun g => by
    rw [advanceCheck_get, recordResult_get, (recordResult_reaches i rec p).pmc]
    rw [recordResult_gdr]
  follows := by
    have hcases := Chk.advanced_cases p.pcu.timebase i (recordResult i rec p).chk
    have hdone := advanceCheck_done (i := i) (p := recordResult i rec p)
    rw [← (recordResult_reaches i rec p).pcu, ← advanceCheck_chk, (recordResult_step i rec p).1] at hcases
    rw [← (recordResult_reaches i rec p).pcu]
    cases hn : nextItem i with
    | none =>
      rw [hn] at hcases
      exact ⟨hcases.1, hcases.2, hdone hn⟩
    | some j =>
      rw [hn] at hcases
      cases j with
      | lamp => exact hcases
      | coil g c => cases c <;> exact hcases

/-- Settles O27: the reading is taken and judged; a reading of the step records its result and the check goes on. -/
theorem aSenseReadingEndsTheStep : Obligations.ASenseReadingEndsTheStep := by
  unfold Obligations.ASenseReadingEndsTheStep
  intro s i r drive started timer hp hconv hphase hcurrent hdrive
  generalize ha : Adc.taken s.nvs.calibration s.pcu.timebase .sense r s.adc = a
  have hread : a = { s.adc with
      readings := { s.adc.readings with sense := some r }, analog := { s.adc.analog with sense := r }
      conversion := some ⟨.ref, s.pcu.timebase, some 2000⟩ } := ha.symm
  generalize hpdef : judgeFaultIndication (s.toPanel.withAdc a) = p
  have hq : conversionComplete r s.toPanel = senseReading r started p := by
    rw [conversionComplete_eq r hconv, ← hpdef, ← ha]
    rfl
  have hjudged : WarningsJudged (s.toPanel.withAdc a).withFaults p := hpdef ▸ judgeFaultIndication_reach _
  have hreach : Reaches [.adc, .chk, .wrc, .lnk] s.toPanel p := by
    rw [← hpdef]
    exact (judgeFaultIndication_reaches _).after (withAdc_reaches a _)
  have hpadc : p.adc = a := by
    rw [← hpdef]
    exact judgeFaultIndication_withAdc _ a
  have hchk : p.chk = { s.chk with
      faultIndication := if s.nvs.recoveryDone then faultTerms (s.toPanel.withAdc a) else s.chk.faultIndication } := by
    rw [hjudged.chk, withFaults_chk]
    rfl
  have hblocked : ∀ l, (p.wrc.lamps.get l).blocked = (s.wrc.lamps.get l).blocked := fun l => by
    rw [hjudged.2.1.lamps l, withFaults_wrc]
    rfl
  have hcurrent' : p.chk.currentItem = some i := by
    rw [hchk]
    exact hcurrent
  have hsense := senseReading_of_driven (p := p) (by rw [hchk]; exact hphase) hcurrent' (by rw [hchk]; exact hdrive)
    r started
  have hqreach := senseReading_reaches r started p
  refine ⟨p, _, exec_eq_effect hp, ?_⟩
  rw [commandEffect, hq, hqreach.adc, hpadc]
  have hended := stepEnded_of_driven ⟨senseResult r, some r, .step⟩ hcurrent'
  refine ⟨hjudged, ?_, hread, fun j hj => ?_, fun hout => ?_, fun hlate hbefore fault hfault => ?_⟩
  · have hall := hqreach.after hreach (ds := [.adc, .chk, .wrc, .gdr, .lnk])
    refine hall.eq_of_reaches ⟨rfl, fun b hb => by cases b <;> simp_all [Block.Stands]⟩ ?_
    simp only [List.mem_cons, List.not_mem_nil, or_false, forall_eq_or_imp, forall_eq]
    exact ⟨(hqreach.adc.trans hpadc).trans rfl, rfl, rfl, rfl, rfl⟩
  · rw [hsense]
    split
    · rw [hended.itemOther j hj, hchk]
      rfl
    · rw [hchk]
      rfl
  · rw [hsense, if_neg (by omega)]
  · rw [hsense, if_pos ⟨hlate, hbefore⟩]
    generalize advanceCheck i (recordResult i ⟨senseResult r, some r, .step⟩ p) = q at hended
    have hresult : (senseResult r).isFault = fault := (senseResult_isFault r).trans hfault.symm
    have hgauge : ∀ g, p.gdr.gauges.get g = s.gdr.gauges.get g := fun g => by rw [hreach.gdr]
    have hindication : q.chk.faultIndication =
        if s.nvs.recoveryDone then faultTerms q else s.chk.faultIndication := by
      rw [hended.indication, hreach.nvs, hchk]
      split <;> simp_all
    refine ⟨hended.itemSelf, hended.counted, hended.next.trans (allItems_next i).symm, hindication, ?_, ?_, ?_,
      fun g hother => ?_, ?_, ?_, ?_⟩
    · rintro lamp tested rfl rfl
      have hlamp := hended.judged
      rw [← hblocked, ← senseResult_blocks]
      exact hlamp
    · rintro g c rfl
      exact hended.judged
    · rw [hended.gdr, hreach.gdr]
    · rw [hended.gauge g, GaugeRecord.resulted_other hother, GaugeRecord.advanced_other hother, hended.next,
        hgauge]
    · rintro g rfl
      have hg := hended.gauge g
      rw [GaugeRecord.resulted_self, GaugeRecord.sinTested, hresult, hgauge] at hg
      exact hg
    · rintro g old new rfl rfl rfl
      have hg := hended.gauge g
      rw [GaugeRecord.resulted_self, hresult, hgauge, hreach.pmc, hreach.gdr] at hg
      exact GaugeRecord.cosTested_eq hg
    · have hfollows := hended.follows
      rw [← hended.next, hreach.pcu, hchk] at hfollows
      exact hfollows

end Sys2Proof.Machine
end

section
/-! PROOFS. The sounder players. -/

namespace Sys2Proof.Machine

open Sys2Proof

/-! ### Strikes, gaps and rests (R110 to R113) -/

theorem restOrIdle_eq (selection : Option WarningKind) : restOrIdle selection =
    match selection with
    | some _ => ⟨.rest, some 150000⟩
    | none => ⟨.idle, none⟩ := by
  cases selection <;> rfl

theorem startSelection_eq (selection : Option WarningKind) : startSelection selection =
    match selection with
    | some k => playStep k 1
    | none => ⟨.idle, none⟩ := by
  cases selection <;> rfl

/-- R111: a player at rest, or idle with nothing selected, stands when the players are settled. -/
theorem restOrIdle_settle (selection : Option WarningKind) :
    (restOrIdle selection).settle selection = restOrIdle selection := by
  cases selection <;> rfl

theorem Wrc.pendingFor_of_entry {w : Wrc} {k : WarningKind} {e : WarningEntry} {sd : Sounder}
    (he : w.entry k = some e) (hp : e.pending.get sd = true) : w.pendingFor k sd = true := by
  refine List.any_eq_true.mpr ⟨e, List.mem_of_find?_eq_some he, ?_⟩
  rw [hp, Wrc.kind_of_entry he]
  simp

section
variable {p : Panel} {sd : Sounder} {k : WarningKind} {step : Nat}

/-- A strike that ends no ONCE pattern goes on while its kind is selected, and gives way otherwise. -/
theorem strikeEnd_of_inside (h : (p.wrc.players.get sd).state = .strike k step)
    (hin : isContinuous k = true ∨ step < patternLength (kindPattern k) ∨ p.wrc.pendingFor k sd = false) :
    strikeEnd sd p = if p.wrc.selection sd = some k then
        p.withWrc (p.wrc.setPlayer sd
          (playStep k (if patternLength (kindPattern k) ≤ step then 1 else step + 1)))
      else endPattern sd p := by
  have hnot : (!isContinuous k && decide (patternLength (kindPattern k) ≤ step) && p.wrc.pendingFor k sd) = false := by
    rcases hin with h | h | h
    · rw [h]; rfl
    · rw [decide_eq_false (Nat.not_le.mpr h), Bool.and_false, Bool.false_and]
    · rw [h, Bool.and_false]
  unfold strikeEnd
  rw [h]
  dsimp only
  rw [hnot]
  rfl

theorem strikeEnd_of_ending (h : (p.wrc.players.get sd).state = .ending k step) :
    strikeEnd sd p = endPattern sd p := by
  unfold strikeEnd
  rw [h]

theorem strikeEnd_of_complete (h : (p.wrc.players.get sd).state = .strike k step) (hc : isContinuous k = false)
    (hlast : patternLength (kindPattern k) ≤ step) (hp : p.wrc.pendingFor k sd = true) :
    strikeEnd sd p = settleWarnings (endPattern sd
      (judgeRemoval k (p.withWrc (p.wrc.modifyEntry k (WarningEntry.complete sd))))) := by
  unfold strikeEnd
  rw [h]
  dsimp only
  rw [hc, hp, decide_eq_true hlast]
  rfl

theorem gapEnd_of_gap (h : (p.wrc.players.get sd).state = .gap k step) : gapEnd sd p =
    p.withWrc (p.wrc.setPlayer sd (playStep k (if patternLength (kindPattern k) ≤ step then 1 else step + 1))) := by
  unfold gapEnd
  rw [h]

theorem restEnd_of_rest (h : (p.wrc.players.get sd).state = .rest) :
    restEnd sd p = p.withWrc (p.wrc.setPlayer sd (startSelection (p.wrc.selection sd))) := by
  unfold restEnd
  rw [h]

end

theorem endPattern_only (sd : Sounder) (p : Panel) : WarningsOnly p (endPattern sd p) := .withWrc p _

theorem endPattern_entry (sd : Sounder) (k : WarningKind) (p : Panel) :
    (endPattern sd p).wrc.entry k = p.wrc.entry k := rfl

/-- R111, R113: the player of a pattern that ended, once the players are settled. -/
theorem settleWarnings_endPattern_player (sd : Sounder) (p : Panel) :
    (settleWarnings (endPattern sd p)).wrc.players.get sd =
      restOrIdle ((settleWarnings (endPattern sd p)).wrc.selection sd) := by
  have hselection : (settleWarnings (endPattern sd p)).wrc.selection sd = p.wrc.selection sd := rfl
  have hplayer : (settleWarnings (endPattern sd p)).wrc.players.get sd =
      ((endPattern sd p).wrc.players.get sd).settle (p.wrc.selection sd) := PerSounder.get_of _ sd
  rw [hselection, hplayer, endPattern, Panel.withWrc_wrc, Wrc.setPlayer, PerSounder.get_set_self, restOrIdle_settle]

theorem WarningEntry.complete_eq {sd : Sounder} {k : WarningKind} {e : WarningEntry} (hk : e.kind = k) :
    e.complete sd = { e with
      pending := e.pending.set sd false
      resound := if sd = .front ∧ (resoundInterval k).isSome then resoundInterval k else e.resound } := by
  unfold WarningEntry.complete
  rw [hk]
  cases sd <;> cases resoundInterval k <;> rfl

/-- Settles O29: each end of a player's step by its state. -/
theorem thePlayersFollowTheirPatterns : Obligations.ThePlayersFollowTheirPatterns := by
  unfold Obligations.ThePlayersFollowTheirPatterns
  intro s sd hp
  refine ⟨fun k step hstate hsel hin => ?_, fun k step hstate hsel hin => ?_, fun k step hstate => ?_,
    fun k step e hstate hc hlast he hpend => ⟨_, exec_eq_effect hp, ?_⟩, fun k step hstate => ?_, fun hstate => ?_⟩
  · rw [exec_eq_effect hp, commandEffect, strikeEnd_of_inside hstate (hin.imp_right .inl), if_pos hsel]
    rfl
  · rw [exec_eq_effect hp, commandEffect, strikeEnd_of_inside hstate hin, if_neg hsel, endPattern, restOrIdle_eq]
    rfl
  · rw [exec_eq_effect hp, commandEffect, strikeEnd_of_ending hstate, endPattern, restOrIdle_eq]
    rfl
  · rw [commandEffect, strikeEnd_of_complete hstate hc hlast (Wrc.pendingFor_of_entry he hpend)]
    refine ⟨?_, (settleWarnings_endPattern_player sd _).trans (restOrIdle_eq _), ?_⟩
    · exact (((WarningsOnly.withWrc s.toPanel _).trans (judgeRemoval_only k _)).trans (endPattern_only sd _)).trans
        (settleWarnings_only _)
    · rintro e' rfl
      rw [settleWarnings_entry, endPattern_entry, ← WarningEntry.complete_eq (Wrc.kind_of_entry he)]
      refine judgeRemoval_entry_self ?_
      rw [Panel.withWrc_wrc, Wrc.entry_modifyEntry _ _ _ (WarningEntry.complete sd) (fun _ => rfl), if_pos rfl, he]
      rfl
  · rw [exec_eq_effect hp, commandEffect, gapEnd_of_gap hstate]
    rfl
  · rw [exec_eq_effect hp, commandEffect, restEnd_of_rest hstate, startSelection_eq]
    rfl

end Sys2Proof.Machine
end

section
/-! PROOFS. The one-second event. -/

namespace Sys2Proof.Machine

open Sys2Proof

/-! ### The clock and the records (R132, R47, R53) -/

/-- R132: the vehicle clock after a second. -/
def Svm.clockTicked (v : Svm) : Svm :=
  { v with timeOfDay := if v.timeOfDay < 86399 then v.timeOfDay + 1 else 0, secondDivider := some 1000000 }

theorem Svm.tickClock_eq (v : Svm) :
    ({ v.tickClock with secondDivider := Timer.start oneSecond } : Svm) = v.clockTicked := by
  have htime : (if 86399 ≤ v.timeOfDay then 0 else v.timeOfDay + 1) =
      if v.timeOfDay < 86399 then v.timeOfDay + 1 else 0 := by
    by_cases h : v.timeOfDay < 86399
    · rw [if_pos h, if_neg (by omega)]
    · rw [if_neg h, if_pos (by omega)]
  rw [Svm.tickClock, htime]
  rfl

theorem Trc.second_eq (t : Trc) : t.second = { t with
    trips := PerTrip.of fun i =>
      if (t.trips.get i).held then t.trips.get i
      else { t.trips.get i with counts :=
        ⟨min 9999999 (t.trips.get i).counts.distance, min 9999999 (t.trips.get i).counts.fuel,
         min 3599999 ((t.trips.get i).counts.runTime + 1)⟩ }
    ring := t.ring.drop 1 ++ [t.current]
    current := ⟨0, 0⟩ } := by
  simp only [Trc.second, PerTrip.map_eq_of, TripRecord.add_eq, Nat.add_zero]
  rfl

/-- The part at a one-second event, before the day is counted. -/
def secondCounted (p : Panel) : Panel :=
  (p.withSvm p.svm.clockTicked).withTrc (if p.pmc.mode = .run then p.trc.second else p.trc)

theorem secondCounted_reaches (p : Panel) : Reaches [.svm, .trc] p (secondCounted p) :=
  (withTrc_reaches _ _).after (withSvm_reaches _ p)

theorem oneSecondEvent_eq (p : Panel) : oneSecondEvent p = tickDay (secondCounted p) := by
  unfold oneSecondEvent secondCounted
  dsimp only
  rw [Svm.tickClock_eq]
  by_cases h : p.pmc.mode = .run
  · rw [if_pos (by exact h), if_pos h]
    rfl
  · rw [if_neg (by exact h), if_neg h]
    rfl

theorem tickDay_within {p : Panel} (h : p.svm.dayTimer < 86399) :
    tickDay p = p.withSvm { p.svm with dayTimer := p.svm.dayTimer + 1 } := if_pos h

theorem tickDay_at_limit {p : Panel} (h : 86399 ≤ p.svm.dayTimer) (hday : 65535 ≤ p.svm.dayCount) :
    tickDay p = p.withSvm { p.svm with dayTimer := 0 } := by
  unfold tickDay
  rw [if_neg (Nat.not_lt.mpr h)]
  exact if_neg (Nat.not_lt.mpr hday)

theorem tickDay_over {p : Panel} (h : 86399 ≤ p.svm.dayTimer) (hday : p.svm.dayCount < 65535) : tickDay p =
    evaluate (queueInternal (.cells 32 (dayWords (p.svm.dayCount + 1)))
      (p.withSvm { p.svm with dayTimer := 0, dayCount := p.svm.dayCount + 1 })) := by
  unfold tickDay
  rw [if_neg (Nat.not_lt.mpr h)]
  exact if_pos hday

/-- R162: an internal job joins where three slots are free. -/
theorem queueInternal_holds {p : Panel} {d : JobData} (hroom : p.nvs.jobCount ≤ 5) (hlow : p.pmc.supplyLow = false)
    (h : ∀ q ∈ p.nvs.queue, q.data.covers d = false) : (queueInternal d p).nvs.Holds d := by
  have hfree : ¬p.nvs.freeSlots < 3 := by
    unfold Nvs.freeSlots
    omega
  rw [queueInternal, if_neg hfree]
  exact queueJob_holds (j := ⟨d, .normal, .internal, none⟩) hlow h

/-- R122: an evaluation once recovery is done judges the warnings from what they were. -/
theorem evaluate_judged {p : Panel} (h : p.nvs.recoveryDone = true) : JudgedFrom p.wrc (evaluate p) := by
  unfold evaluate
  rw [if_neg (by simp [h])]
  have hjudged := (judgeWarnings_judged (if evaluatedItems p = p.svm.items then
      p.withSvm { p.svm with items := evaluatedItems p }
    else notifyAll .service (p.withSvm { p.svm with items := evaluatedItems p }))).2.1
  have hwrc : (if evaluatedItems p = p.svm.items then p.withSvm { p.svm with items := evaluatedItems p }
      else notifyAll .service (p.withSvm { p.svm with items := evaluatedItems p })).wrc = p.wrc := by
    split <;> rfl
  rw [hwrc] at hjudged
  exact hjudged

/-- Settles O31: the second is counted, and the day with it; its roll-over queues the day's job and grades the items. -/
theorem aOneSecondEvent : Obligations.AOneSecondEvent := by
  unfold Obligations.AOneSecondEvent
  rintro s v t hp rfl rfl
  have hcounted := oneSecondEvent_eq s.toPanel
  rw [← Trc.second_eq]
  refine ⟨fun hday => ?_, fun hday hlimit => ?_, fun hday hlimit hdone => ⟨_, exec_eq_effect hp, ?_⟩⟩
  · rw [exec_eq_effect hp, commandEffect, hcounted, tickDay_within (by exact hday)]
    rfl
  · rw [exec_eq_effect hp, commandEffect, hcounted, tickDay_at_limit (by exact hday) (by exact hlimit)]
    rfl
  · have htick : tickDay (secondCounted s.toPanel) =
        evaluate (queueInternal (.cells 32 (dayWords (s.svm.dayCount + 1)))
          ((secondCounted s.toPanel).withSvm { s.svm.clockTicked with
            dayTimer := 0, dayCount := s.svm.dayCount + 1 })) := tickDay_over hday hlimit
    rw [commandEffect, hcounted, htick]
    generalize hat : (secondCounted s.toPanel).withSvm _ = at_
    have hatsvm : at_.svm = { s.svm.clockTicked with dayTimer := 0, dayCount := s.svm.dayCount + 1 } := by
      rw [← hat]
      rfl
    have hattrc : at_.trc = if s.pmc.mode = .run then s.trc.second else s.trc := by
      rw [← hat]
      rfl
    have hat_reaches : Reaches [.svm, .trc] s.toPanel at_ := by
      rw [← hat]
      exact (withSvm_reaches _ _).after (secondCounted_reaches s.toPanel)
    have hqueued := queueInternal_reaches (.cells 32 (dayWords (s.svm.dayCount + 1))) at_
    have hbefore := hqueued.after hat_reaches (ds := [.svm, .trc, .nvs, .lnk])
    have hdone' : (queueInternal (.cells 32 (dayWords (s.svm.dayCount + 1))) at_).nvs.recoveryDone = true := by
      rw [(queueInternal_only _ at_).nvs, hat_reaches.nvs]
      exact hdone
    have hreach := evaluate_reaches (queueInternal (.cells 32 (dayWords (s.svm.dayCount + 1))) at_)
    have hjudged := evaluate_judged hdone'
    rw [hbefore.wrc] at hjudged
    refine ⟨?_, ?_, ?_, evaluate_itemsGraded hdone', hjudged, ?_, ?_, ?_, ?_, ?_, fun hroom hlow hapart => ?_⟩
    · rw [hreach.trc, hqueued.trc, hattrc]
    · rw [hreach.nvs, (queueInternal_only _ at_).cells, hat_reaches.nvs]
    · rw [evaluate_svm hdone', hqueued.svm, hatsvm]
      rfl
    · rw [hreach.pcu, hbefore.pcu]
    · rw [hreach.dfa, hbefore.dfa]
    · rw [hreach.gdr, hbefore.gdr]
    · rw [hreach.chk, hbefore.chk]
    · rw [hreach.pmc, hbefore.pmc]
    · rw [hreach.nvs]
      exact queueInternal_holds (hat_reaches.nvs ▸ hroom) (hat_reaches.pmc ▸ hlow) (hat_reaches.nvs ▸ hapart)

end Sys2Proof.Machine
end

section
/-! PROOFS. How far the mode entries, the requests and the recovery reach; the cells stand over all of them. -/

namespace Sys2Proof.Machine

open Sys2Proof

/-! ### The mode entries -/

theorem onSws_reaches (f : Sws → Sws) (p : Panel) : Reaches [.sws] p (p.onSws f) := withSws_reaches _ p
theorem onAdc_reaches (f : Adc → Adc) (p : Panel) : Reaches [.adc] p (p.onAdc f) := withAdc_reaches _ p
theorem onDfa_reaches (f : Dfa → Dfa) (p : Panel) : Reaches [.dfa] p (p.onDfa f) := withDfa_reaches _ p
theorem onTrc_reaches (f : Trc → Trc) (p : Panel) : Reaches [.trc] p (p.onTrc f) := withTrc_reaches _ p
theorem onWrc_reaches (f : Wrc → Wrc) (p : Panel) : Reaches [.wrc] p (p.onWrc f) := withWrc_reaches _ p
theorem onNvs_reaches (f : Nvs → Nvs) (p : Panel) : Reaches [.nvs] p (p.onNvs f) := withNvs_reaches _ p
theorem onPmc_reaches (f : Pmc → Pmc) (p : Panel) : Reaches [.pmc] p (p.onPmc f) := withPmc_reaches _ p
theorem onPorts_reaches (f : LinkPort → LinkPort) (p : Panel) : Reaches [.lnk] p (p.onPorts f) :=
  withPorts_reaches _ p

theorem beginLamp_reaches (l : Lamp) (p : Panel) : Reaches [.chk, .wrc] p (beginLamp l p) :=
  (settleLamps_reaches _).after (withChk_reaches _ p)

theorem startCheck_reaches (source : CheckSource) (p : Panel) : Reaches [.chk, .wrc, .lnk] p (startCheck source p) :=
  (judgeFaultIndication_reaches _).after ((beginLamp_reaches _ _).after (ds := [.chk, .wrc]) (withChk_reaches _ p))

theorem startAutomatic_reaches (p : Panel) : Reaches [.chk, .wrc, .lnk] p (startAutomatic p) :=
  (notifyAll_reaches _ _).after (startCheck_reaches _ p)

theorem gaugesEnterRun_reaches (p : Panel) : Reaches [.gdr] p (gaugesEnterRun p) :=
  (withGdr_reaches _ _).after (ds := [.gdr]) (mapGauges_reaches _ p)

theorem gaugesEnterShutdown_reaches (p : Panel) : Reaches [.gdr] p (gaugesEnterShutdown p) :=
  (withGdr_reaches _ _).after (ds := [.gdr]) (mapGauges_reaches _ p)

/-- What RUN entry writes before the warnings are judged. -/
def beforeRun (p : Panel) : Panel :=
  Panel.onWrc Wrc.enterRun (gaugesEnterRun (Panel.onTrc Trc.clearWindow (Panel.onDfa (Dfa.setSampleTimer (some 2000000))
    (Panel.onAdc (Adc.enterRun p.pcu.timebase) (Panel.onSws (Sws.modeChange .run)
      (setMode .run (Panel.onPmc Pmc.enterRun p)))))))

theorem enterRun_eq_beforeRun (p : Panel) : enterRun p =
    Panel.onPorts LinkPort.restartPresence (startAutomatic (evaluate (judgeWarnings (beforeRun p)))) := rfl

theorem beforeRun_reaches (p : Panel) : Reaches [.pmc, .sws, .adc, .dfa, .trc, .gdr, .wrc, .lnk] p (beforeRun p) :=
  (onWrc_reaches _ _).after ((gaugesEnterRun_reaches _).after (ds := [.pmc, .sws, .adc, .dfa, .trc, .gdr, .lnk])
    ((onTrc_reaches _ _).after (ds := [.pmc, .sws, .adc, .dfa, .trc, .lnk])
      ((onDfa_reaches _ _).after (ds := [.pmc, .sws, .adc, .dfa, .lnk])
        ((onAdc_reaches _ _).after (ds := [.pmc, .sws, .adc, .lnk])
          ((onSws_reaches _ _).after (ds := [.pmc, .sws, .lnk])
            ((setMode_reaches _ _).after (ds := [.pmc, .lnk]) (onPmc_reaches _ p)))))))

theorem afterJudgedRun_reaches (p : Panel) : Reaches [.chk, .svm, .wrc, .lnk] p
    (Panel.onPorts LinkPort.restartPresence (startAutomatic (evaluate (judgeWarnings p)))) :=
  (onPorts_reaches _ _).after ((startAutomatic_reaches _).after (ds := [.chk, .svm, .wrc, .lnk])
    ((evaluate_reaches _).after (ds := [.svm, .wrc, .lnk]) (judgeWarnings_reaches p)))

theorem enterRun_reaches (p : Panel) :
    Reaches [.pmc, .sws, .adc, .dfa, .trc, .gdr, .wrc, .svm, .chk, .lnk] p (enterRun p) :=
  (afterJudgedRun_reaches (beforeRun p)).after (beforeRun_reaches p)

theorem abortCheck_reaches (p : Panel) : Reaches [.chk, .gdr, .wrc, .lnk] p (abortCheck p) := by
  unfold abortCheck
  refine .ite (fun _ => ?_) fun _ => .refl _ p
  refine (notifyAll_reaches _ _).after (bs := [.chk, .gdr, .wrc]) ?_
  split
  · exact (releaseHold_reaches _ _).after (withChk_reaches _ p)
  · exact (settleLamps_reaches _).after (withChk_reaches _ p)

theorem queueTenths_reaches (p : Panel) : Reaches [.nvs, .lnk] p (queueTenths p) :=
  .ite (fun _ => .refl _ p) fun _ => queueUrgent_reaches _ p

/-- What SHUTDOWN entry writes before the warnings are judged. -/
def beforeShutdown (p : Panel) : Panel :=
  Panel.onWrc Wrc.enterShutdown (gaugesEnterShutdown (queueTenths (Panel.onDfa (Dfa.setSampleTimer none)
    (queueSnapshot (Panel.onSws (Sws.modeChange .shutdown) (setMode .shutdown (Panel.onPmc Pmc.enterShutdown p)))))))

theorem enterShutdown_eq_beforeShutdown (p : Panel) :
    enterShutdown p = Panel.onNvs Nvs.closeLatch (abortCheck (judgeWarnings (beforeShutdown p))) := rfl

/-- What SHUTDOWN entry writes before the snapshot is queued. -/
def beforeSnapshot (p : Panel) : Panel :=
  Panel.onSws (Sws.modeChange .shutdown) (setMode .shutdown (Panel.onPmc Pmc.enterShutdown p))

theorem beforeSnapshot_reaches (p : Panel) : Reaches [.pmc, .sws, .lnk] p (beforeSnapshot p) :=
  (onSws_reaches _ _).after ((setMode_reaches _ _).after (ds := [.pmc, .lnk]) (onPmc_reaches _ p))

theorem beforeShutdown_reaches (p : Panel) :
    Reaches [.pmc, .sws, .dfa, .gdr, .wrc, .nvs, .lnk] p (beforeShutdown p) :=
  (onWrc_reaches _ _).after ((gaugesEnterShutdown_reaches _).after (ds := [.pmc, .sws, .dfa, .gdr, .nvs, .lnk])
    ((queueTenths_reaches _).after (ds := [.pmc, .sws, .dfa, .nvs, .lnk])
      ((onDfa_reaches _ _).after (ds := [.pmc, .sws, .dfa, .nvs, .lnk])
        ((queueUrgent_reaches _ _).after (ds := [.pmc, .sws, .nvs, .lnk]) (beforeSnapshot_reaches p)))))

theorem afterJudgedShutdown_reaches (p : Panel) : Reaches [.chk, .gdr, .wrc, .nvs, .lnk] p
    (Panel.onNvs Nvs.closeLatch (abortCheck (judgeWarnings p))) :=
  (onNvs_reaches _ _).after ((abortCheck_reaches _).after (ds := [.chk, .gdr, .wrc, .lnk]) (judgeWarnings_reaches p))

theorem enterShutdown_reaches (p : Panel) :
    Reaches [.pmc, .sws, .dfa, .gdr, .wrc, .chk, .nvs, .lnk] p (enterShutdown p) :=
  (afterJudgedShutdown_reaches (beforeShutdown p)).after (beforeShutdown_reaches p)

/-! ### The cells stand -/

/-- No cell changed. -/
structure CellsKept (p q : Panel) : Prop where
  cells : q.nvs.cells = p.nvs.cells

theorem CellsKept.refl (p : Panel) : CellsKept p p := ⟨rfl⟩

theorem CellsKept.after {p q r : Panel} (k : CellsKept q r) (h : CellsKept p q) : CellsKept p r :=
  ⟨k.cells.trans h.cells⟩

theorem CellsKept.ite {c : Prop} [Decidable c] {p q r : Panel} (h : c → CellsKept p q) (k : ¬c → CellsKept p r) :
    CellsKept p (if c then q else r) := by
  split
  · exact h ‹_›
  · exact k ‹_›

theorem Reaches.cells {bs : List Block} {p q : Panel} (h : Reaches bs p q) (hb : Block.nvs ∉ bs := by decide) :
    CellsKept p q := ⟨congrArg Nvs.cells (h.nvs hb)⟩

theorem queueJob_cells (j : WriteJob) (p : Panel) : CellsKept p (queueJob j p) :=
  ⟨(queueJob_only j p).cells⟩

theorem closeLatch_cells (p : Panel) : CellsKept p (Panel.onNvs Nvs.closeLatch p) := ⟨rfl⟩

theorem enterShutdown_cells (p : Panel) : CellsKept p (enterShutdown p) := by
  have htenths : ∀ q, CellsKept q (queueTenths q) := fun q =>
    CellsKept.ite (fun _ => .refl q) fun _ => ⟨queueUrgent_cells _ q⟩
  have hbefore : CellsKept p (beforeShutdown p) :=
    ((onWrc_reaches _ _).after (ds := [.wrc, .gdr]) (gaugesEnterShutdown_reaches _)).cells.after
      ((htenths _).after ((onDfa_reaches _ _).cells.after
        (CellsKept.after ⟨queueUrgent_cells _ _⟩ (beforeSnapshot_reaches p).cells)))
  rw [enterShutdown_eq_beforeShutdown]
  refine (closeLatch_cells _).after (CellsKept.after (q := beforeShutdown p) ?_ hbefore)
  exact ((abortCheck_reaches _).after (ds := [.chk, .gdr, .wrc, .lnk]) (judgeWarnings_reaches _)).cells

theorem leaveStartup_cells (p : Panel) : CellsKept p (leaveStartup p) :=
  .ite (fun _ => .ite (fun _ => (enterRun_reaches p).cells) fun _ => (enterStandby_reaches p).cells) fun _ => .refl p

theorem judgeRest_reaches (p : Panel) : Reaches [.pmc, .sws, .adc, .gdr, .wrc, .lnk] p (judgeRest p) :=
  .ite (fun _ => enterStandby_reaches p) fun _ => .refl _ p

theorem takeSnapshotWritten_reaches (p : Panel) :
    Reaches [.pmc, .sws, .adc, .gdr, .wrc, .lnk] p (takeSnapshotWritten p) :=
  .ite (fun _ => (judgeRest_reaches _).after (withPmc_reaches _ p)) fun _ => .refl _ p

/-! ### The requests -/

theorem judged_cells {checks : List (Bool × Status)} {effect : Panel → Answer} {p : Panel}
    (h : CellsKept p (effect p).panel) : CellsKept p (judged checks effect p).panel := by
  unfold judged
  split
  · exact .refl p
  · exact h

theorem setHeld_reaches (i : TripId) (held : Bool) (l : Link) (p : Panel) :
    Reaches [.trc, .lnk] p (setHeld i held l p) :=
  .ite (fun _ => .refl _ p) fun _ => (notifyOthers_reaches _ _ _).after (withTrc_reaches _ p)

theorem resetTrip_reaches (i : TripId) (l : Link) (p : Panel) : Reaches [.trc, .wrc, .lnk] p (resetTrip i l p) :=
  (rangeInputsChanged_reaches _).after (ds := [.trc, .wrc, .lnk])
    ((notifyOthers_reaches _ _ _).after (ds := [.trc, .lnk]) (withTrc_reaches _ p))

theorem storeItem_cells (i : SlotId) (it : ServiceItem) (o : Origin) (l : Link) (p : Panel) :
    CellsKept p (storeItem i it o l p) :=
  (evaluate_reaches _).cells.after ((notifyOthers_reaches _ _ _).cells.after
    ((queueJob_cells _ _).after (withSvm_reaches _ p).cells))

theorem takeOdometer_reaches (v : Nat) (p : Panel) : Reaches [.dfa, .svm, .wrc, .lnk] p (takeOdometer v p) :=
  .ite (fun _ => (evaluate_reaches _).after (withDfa_reaches _ p)) fun _ => (withDfa_reaches _ p).mono (by decide)

theorem setOdometer_cells (v : Nat) (p : Panel) : CellsKept p (setOdometer v p) := by
  rw [setOdometer_eq]
  have hset : CellsKept (consumeLatch p) (judgeFaultIndication (takeOdometer v (consumeLatch p))) :=
    ((judgeFaultIndication_reaches _).after (ds := [.dfa, .svm, .chk, .wrc, .lnk]) (takeOdometer_reaches v _)).cells
  exact (queueJob_cells _ _).after ((queueJob_cells _ _).after ⟨hset.cells⟩)

theorem acknowledge_reaches (l : Link) (k : WarningKind) (e : WarningEntry) (p : Panel) :
    Reaches [.wrc, .lnk] p (acknowledge l k e p) := by
  obtain ⟨q, rfl | rfl, honly⟩ := acknowledge_reach l k e p
  · exact honly.reaches
  · exact honly.reaches.after (notifyOthers_reaches _ _ p)

theorem overspeedSet_reaches (w : Wrc) (p : Panel) : Reaches [.wrc, .lnk] p (judgeWarnings (p.withWrc w)) :=
  (judgeWarnings_reaches _).after (withWrc_reaches w p)

theorem clockSet_reaches (l : Link) (v : Svm) (p : Panel) :
    Reaches [.svm, .lnk] p (notifyOthers .clock l (p.withSvm v)) :=
  (notifyOthers_reaches _ _ _).after (withSvm_reaches v p)

theorem destination_reaches (l : Link) (t : Trc) (p : Panel) :
    Reaches [.trc, .lnk] p (notifyOthers .trip l (p.withTrc t)) :=
  (notifyOthers_reaches _ _ _).after (withTrc_reaches t p)

theorem checkStart_reaches (l : Link) (source : CheckSource) (p : Panel) :
    Reaches [.chk, .wrc, .lnk] p (notifyOthers .check l (startCheck source p)) :=
  (notifyOthers_reaches _ _ _).after (startCheck_reaches source p)

theorem takeTripReset_cells (l : Link) (index : Byte) (p : Panel) : CellsKept p (takeTripReset l index p).panel := by
  unfold takeTripReset
  split
  · exact .refl p
  · exact judged_cells (resetTrip_reaches _ l p).cells

theorem takeTripState_cells (l : Link) (index : Byte) (held : Bool) (p : Panel) :
    CellsKept p (takeTripState l index held p).panel := by
  unfold takeTripState
  split
  · exact .refl p
  · exact judged_cells (setHeld_reaches _ held l p).cells

theorem takeDestination_cells (l : Link) (km : BitVec 16) (p : Panel) : CellsKept p (takeDestination l km p).panel :=
  judged_cells (destination_reaches l _ p).cells

theorem takeWarningAck_cells (l : Link) (kind : Byte) (p : Panel) : CellsKept p (takeWarningAck l kind p).panel := by
  unfold takeWarningAck
  split
  · exact .refl p
  · split
    · exact .refl p
    · exact judged_cells (acknowledge_reaches l _ _ p).cells

theorem takeCall_cells (l : Link) (p : Panel) : CellsKept p (takeCall l p).panel := by
  cases l
  all_goals exact judged_cells (raiseEvent_reaches _ p).cells

theorem takeOverspeedSet_cells (v : BitVec 16) (p : Panel) : CellsKept p (takeOverspeedSet v p).panel :=
  judged_cells (overspeedSet_reaches _ p).cells

theorem takeRearQuietSet_cells (v : Byte) (p : Panel) : CellsKept p (takeRearQuietSet v p).panel :=
  judged_cells (CellsKept.ite (fun _ => (makeRearQuiet_only p).reaches.cells) fun _ => (withWrc_reaches _ p).cells)

theorem takeClockSet_cells (l : Link) (time : BitVec 24) (p : Panel) : CellsKept p (takeClockSet l time p).panel :=
  judged_cells (clockSet_reaches l _ p).cells

theorem takeCheckStart_cells (l : Link) (p : Panel) : CellsKept p (takeCheckStart l p).panel :=
  judged_cells (checkStart_reaches l _ p).cells

theorem consumeLatch_cells (p : Panel) : CellsKept p (consumeLatch p) := ⟨rfl⟩

theorem takeServiceReset_cells (l : Link) (slot : Byte) (p : Panel) :
    CellsKept p (takeServiceReset l slot p).panel := by
  unfold takeServiceReset
  split
  · exact .refl p
  · split
    · exact judged_cells ((storeItem_cells _ _ _ _ _).after (consumeLatch_cells p))
    · exact judged_cells (storeItem_cells _ _ _ _ p)

theorem takeServiceWrite_cells (l : Link) (slot : Byte) (w : ItemParams) (p : Panel) :
    CellsKept p (takeServiceWrite l slot w p).panel := by
  unfold takeServiceWrite
  split
  · exact .refl p
  · exact judged_cells ((storeItem_cells _ _ _ _ _).after (consumeLatch_cells p))

theorem takeWindow_cells (p : Panel) (n : Nvs) (h : n.cells = p.nvs.cells) : CellsKept p (p.withNvs n) := ⟨h⟩

theorem takeWindowSelect_cells (region index mode : Byte) (p : Panel) :
    CellsKept p (takeWindowSelect region index mode p).panel := by
  unfold takeWindowSelect
  split
  · exact judged_cells (takeWindow_cells p _ rfl)
  · exact .refl p

theorem takeWindowRead_cells (p : Panel) : CellsKept p (takeWindowRead p).panel := by
  unfold takeWindowRead
  split
  · exact .refl p
  · exact takeWindow_cells p _ rfl

theorem takeWindowWrite_cells (value : StoreWord) (p : Panel) : CellsKept p (takeWindowWrite value p).panel := by
  unfold takeWindowWrite
  split
  · exact .refl p
  · exact judged_cells ((queueJob_cells _ _).after (takeWindow_cells p _ rfl))

theorem takeBankSwitch_cells (code : Byte) (p : Panel) : CellsKept p (takeBankSwitch code p).panel := by
  unfold takeBankSwitch
  split
  · exact .refl p
  · exact judged_cells ((queueJob_cells _ _).after (takeWindow_cells p _ rfl))

theorem takeOdometerSet_cells (v : BitVec 24) (p : Panel) : CellsKept p (takeOdometerSet v p).panel :=
  judged_cells (setOdometer_cells _ p)

theorem carryOut_cells (l : Link) (r : Request) (p : Panel) : CellsKept p (carryOut l r p).panel := by
  cases r
  case noticesRead => exact (withPort_reaches l _ p).cells
  case noticeMaskSet => exact judged_cells (withPort_reaches l _ p).cells
  case inputsRead => exact (withSws_reaches _ p).cells
  case errorsRead => exact (withPort_reaches l _ p).cells
  case tripRead index =>
    show CellsKept p (takeTripRead index p).panel
    unfold takeTripRead
    split <;> exact .refl p
  case tripReset index => exact takeTripReset_cells l index p
  case tripHold index => exact takeTripState_cells l index true p
  case tripResume index => exact takeTripState_cells l index false p
  case tripSetDestination km => exact takeDestination_cells l km p
  case warningAck kind => exact takeWarningAck_cells l kind p
  case call => exact takeCall_cells l p
  case overspeedSet v => exact takeOverspeedSet_cells v p
  case rearQuietSet v => exact takeRearQuietSet_cells v p
  case clockSet time => exact takeClockSet_cells l time p
  case serviceReset slot => exact takeServiceReset_cells l slot p
  case checkStart => exact takeCheckStart_cells l p
  case serviceWrite slot item => exact takeServiceWrite_cells l slot item p
  case windowSelect region index mode => exact takeWindowSelect_cells region index mode p
  case windowRead => exact takeWindowRead_cells p
  case windowWrite value => exact takeWindowWrite_cells value p
  case bankSwitch bank => exact takeBankSwitch_cells bank p
  case odometerSet v => exact takeOdometerSet_cells v p
  case storeOpen => exact ⟨rfl⟩
  case restart => exact ⟨rfl⟩
  all_goals exact .refl p

theorem answerRequest_cells (l : Link) (r : Request) (p : Panel) : CellsKept p (answerRequest l r p).panel := by
  unfold answerRequest
  split
  · exact carryOut_cells l r p
  · exact .refl p

theorem takeMessage_cells (l : Link) (m : Message) (p : Panel) : CellsKept p (takeMessage l m p) := by
  cases m
  case good r => exact (withPort_reaches l _ _).cells.after (answerRequest_cells l r p)
  all_goals exact (withPort_reaches l _ p).cells

theorem takeWaiting_cells (l : Link) (p : Panel) : CellsKept p (takeWaiting l p) := by
  unfold takeWaiting
  dsimp only
  split
  · exact (takeMessage_cells l _ _).after (withPort_reaches l _ p).cells
  · exact .refl p

/-! ### Recovery -/

theorem QueueOnly.ite {c : Prop} [Decidable c] {p q r : Panel} (h : c → QueueOnly p q) (k : ¬c → QueueOnly p r) :
    QueueOnly p (if c then q else r) := by
  split
  · exact h ‹_›
  · exact k ‹_›

theorem QueueOnly.foldl {α : Type} {f : Panel → α → Panel} (h : ∀ p a, QueueOnly p (f p a)) :
    ∀ (l : List α) (p : Panel), QueueOnly p (l.foldl f p)
  | [], p => .refl p
  | a :: l, p => (h p a).trans (QueueOnly.foldl h l (f p a))

theorem queueRecoveryJobs_only (dayLost : Bool) (p : Panel) : QueueOnly p (queueRecoveryJobs dayLost p) := by
  unfold queueRecoveryJobs
  extract_lets format day
  have hformat : QueueOnly p format := .ite (fun _ => .refl p) fun _ => queueInternal_only _ p
  have hday : QueueOnly format day := .ite (fun _ => queueInternal_only _ _) fun _ => .refl _
  have hitems : QueueOnly day (queueItemJobs day) :=
    QueueOnly.foldl (fun q i => .ite (fun _ => queueInternal_only _ q) fun _ => .refl q) allSlots day
  exact (hformat.trans hday).trans hitems

theorem queueRecoveryJobs_cells (dayLost : Bool) (p : Panel) : CellsKept p (queueRecoveryJobs dayLost p) :=
  ⟨(queueRecoveryJobs_only dayLost p).cells⟩

theorem itemsRecovered_reaches (p : Panel) : Reaches [.dfa, .gdr, .svm] p (itemsRecovered p) :=
  ⟨rfl, fun b hb => by cases b <;> simp_all [Block.Stands, itemsRecovered]⟩

theorem recoveryFormed_reaches (p : Panel) : Reaches [.dfa, .gdr, .svm, .chk, .wrc, .lnk] p
    (formFaultIndication (evaluateFirst (itemsRecovered p))) :=
  (formFaultIndication_reaches _).after (ds := [.dfa, .gdr, .svm, .chk, .wrc, .lnk])
    ((evaluateFirst_reaches _).after (ds := [.dfa, .gdr, .svm, .wrc, .lnk]) (itemsRecovered_reaches p))

theorem recovered_cells (p : Panel) : CellsKept p (Panel.onNvs Nvs.recovered p) := ⟨rfl⟩

theorem recoveryDelivered_cells (dayLost : Bool) (p : Panel) : CellsKept p (recoveryDelivered dayLost p) :=
  (rangeInputsChanged_reaches _).cells.after ((recovered_cells _).after
    ((queueRecoveryJobs_cells dayLost _).after (recoveryFormed_reaches p).cells))

theorem finishRecovery_cells (dayLost : Bool) (p : Panel) : CellsKept p (finishRecovery dayLost p) := by
  rw [finishRecovery_eq]
  exact (leaveStartup_cells _).after ((takeWaiting_cells _ _).after ((takeWaiting_cells _ _).after
    ((takeWaiting_cells _ _).after (recoveryDelivered_cells dayLost p))))

theorem recoverRestart_cells (p : Panel) : CellsKept p (recoverRestart p) := by
  rw [recoverRestart_eq]
  exact (finishRecovery_cells false _).after ⟨rfl⟩

end Sys2Proof.Machine
end

section
/-! PROOFS. A cell's programming, and the completion of a bank switch. -/

namespace Sys2Proof.Machine

open Sys2Proof

/-! ### The cell (R160, R161) -/

/-- The store with the cell of the job in flight written. -/
def Nvs.programmed (n : Nvs) (j : WriteJob) : Nvs :=
  { n with cells := Memory.write (n.currentCell j) (n.currentWord j) n.cells }

theorem cellProgrammed_eq {p : Panel} {j : WriteJob} (h : p.nvs.inFlight = some j) : cellProgrammed p =
    if (p.nvs.programmed j).lastCell j then
      afterJob (completeJob j.data (p.withNvs { p.nvs.programmed j with inFlight := none, cellTimer := none }))
    else p.withNvs ((p.nvs.programmed j).nextCell j) := by
  unfold cellProgrammed
  rw [h]
  rfl

theorem Nvs.beginNext_only (n : Nvs) : n.beginNext =
    { n with queue := n.beginNext.queue, inFlight := n.beginNext.inFlight, cellTimer := n.beginNext.cellTimer } := by
  unfold Nvs.beginNext
  split
  · rfl
  · split
    · split <;> rfl
    · split <;> rfl

theorem Nvs.nextCell_cells (j : WriteJob) (n : Nvs) : (n.nextCell j).cells = n.cells := by
  unfold Nvs.nextCell
  dsimp only
  split
  · rw [Nvs.beginNext_only]
  · rfl

theorem completeBankSwitch_reaches (bank : Bank) (p : Panel) :
    Reaches [.trc, .svm, .chk, .wrc, .lnk] (bankTaken bank p) (completeBankSwitch bank p) := by
  rw [completeBankSwitch_eq]
  exact (notifyLink_reaches _ _ _).after (ds := [.trc, .svm, .chk, .wrc, .lnk])
    ((judgeFaultIndication_reaches _).after (ds := [.trc, .svm, .chk, .wrc, .lnk])
      ((evaluate_reaches _).after (ds := [.trc, .svm, .wrc, .lnk])
        ((rangeInputsChanged_reaches _).after (ds := [.trc, .wrc, .lnk])
          (takeCalibrationWarnings_only _).reaches)))

theorem completeJob_cells (d : JobData) (p : Panel) : CellsKept p (completeJob d p) := by
  cases d
  case odometer v => exact ⟨rfl⟩
  case cells first words =>
    unfold completeJob
    dsimp only
    refine .ite (fun _ => .ite (fun _ => .refl p) fun _ => (takeSnapshotWritten_reaches p).cells) fun _ =>
      .ite (fun _ => ?_) fun _ => .refl p
    split
    · exact (completeBankSwitch_reaches _ p).cells.after ⟨rfl⟩
    · exact .refl p

theorem afterJob_cells (p : Panel) : CellsKept p (afterJob p) :=
  .ite (fun _ => recoverRestart_cells p) fun _ => ⟨(beginNext_only p).cells⟩

/-- Nothing but the job's cell is written, whatever the completion of the job brings. -/
theorem cellProgrammed_cells {p : Panel} {j : WriteJob} (h : p.nvs.inFlight = some j) : (cellProgrammed p).nvs.cells =
    Memory.write (p.nvs.currentCell j) (p.nvs.currentWord j) p.nvs.cells := by
  rw [cellProgrammed_eq h]
  split
  · exact ((afterJob_cells _).after (completeJob_cells _ _)).cells
  · exact Nvs.nextCell_cells j _

/-- R161: a job that no URGENT job waits for goes on with its next cell. -/
theorem Nvs.nextCell_of_goes_on {n : Nvs} {j : WriteJob} {k : Nat} (hk : j.progress = some k)
    (h : j.jobClass = .urgent ∨ n.draining = true ∨ ∀ u ∈ n.queue, u.jobClass = .normal) :
    n.nextCell j = { n with inFlight := some { j with progress := some (k + 1) }, cellTimer := some 10000 } := by
  have hgives : n.givesWay j = false := by
    unfold Nvs.givesWay
    rcases h with h | h | h
    · rw [h]
      simp
    · rw [h]
      rfl
    · rw [Bool.and_eq_false_iff]
      exact .inr (List.any_eq_false.mpr fun u hu => by simp [h u hu])
  rw [Nvs.nextCell, hgives, Nvs.currentCell, hk]
  rfl

/-- R161: a NORMAL job gives way to a waiting URGENT job at its next cell. -/
theorem Nvs.nextCell_of_gives_way {n : Nvs} {j : WriteJob} {k : Nat} (hk : j.progress = some k)
    (hclass : j.jobClass = .normal) (hdrain : n.draining = false) (hurgent : ∃ u ∈ n.queue, u.jobClass = .urgent) :
    { j with progress := some (k + 1) } ∈ (n.nextCell j).queue ∧
      ∃ u ∈ n.queue, u.jobClass = .urgent ∧ ∃ k', (n.nextCell j).inFlight = some { u with progress := k' } := by
  obtain ⟨u, hu, hclass'⟩ := hurgent
  have hgives : n.givesWay j = true := by
    unfold Nvs.givesWay
    rw [hdrain, hclass, List.any_eq_true.mpr ⟨u, hu, by rw [hclass']; rfl⟩]
    rfl
  rw [Nvs.nextCell, hgives, Nvs.currentCell, hk]
  dsimp only [Option.getD_some]
  rw [if_pos rfl, suspend]
  have hfilter : u ∈ n.queue.filter (fun q => q.jobClass == .urgent) := List.mem_filter.mpr ⟨hu, by rw [hclass']; rfl⟩
  cases hq : n.queue.filter (fun q => q.jobClass == .urgent) with
  | nil => rw [hq] at hfilter; exact absurd hfilter List.not_mem_nil
  | cons v rest =>
    have hv := List.mem_filter.mp (hq ▸ List.mem_cons_self : v ∈ n.queue.filter (fun q => q.jobClass == .urgent))
    simp only [Nvs.beginNext, hdrain, List.cons_append, Nvs.begin, Bool.false_eq_true, if_false]
    exact ⟨by simp, v, hv.1, by simpa using hv.2, _, rfl⟩

theorem afterJob_of_running {p : Panel} (h : p.nvs.draining = false) : afterJob p = p.withNvs p.nvs.beginNext := by
  rw [afterJob, h]
  rfl

/-- Settles O32: the cell is written in every case, and the store goes on, gives way, or ends the job. -/
theorem aCellIsProgrammed : Obligations.ACellIsProgrammed := by
  unfold Obligations.ACellIsProgrammed
  intro s j k first hp hj hk hfirst hlo hhi hwf
  have hfirst' : s.nvs.firstCell j.data = first := by
    rw [hfirst]
    unfold Nvs.firstCell Nvs.nextSlot
    cases j.data <;> rfl
  have hcell : s.nvs.currentCell j = k := by rw [Nvs.currentCell, hk]; rfl
  have hword : s.nvs.currentWord j = j.data.words.getD (k - first) 0xFFFF := by
    rw [Nvs.currentWord, hcell, hfirst']
    rfl
  have hlast : (s.nvs.programmed j).lastCell j = decide (first + j.data.words.length ≤ k + 1) := by
    unfold Nvs.lastCell
    rw [show (s.nvs.programmed j).firstCell j.data = s.nvs.firstCell j.data by cases j.data <;> rfl, hfirst',
      show (s.nvs.programmed j).currentCell j = s.nvs.currentCell j by unfold Nvs.currentCell; rw [hk]; rfl, hcell]
  have hcells : (cellProgrammed s.toPanel).nvs.cells =
      Memory.write k (j.data.words.getD (k - first) 0xFFFF) s.nvs.cells := by
    rw [cellProgrammed_cells hj, hcell, hword]
  have hgoes : k + 1 < first + j.data.words.length →
      cellProgrammed s.toPanel = s.toPanel.withNvs ((s.nvs.programmed j).nextCell j) := fun h => by
    rw [cellProgrammed_eq hj, if_neg]
    rw [hlast, decide_eq_true_eq]
    omega
  refine ⟨_, exec_eq_effect hp, ?_⟩
  rw [commandEffect, hcells]
  refine ⟨Memory.read_write_same _ _ _ hwf, fun a ha => Memory.read_write_other _ _ _ _ hwf ha, fun hmore hon => ?_,
    fun hmore hclass hdrain hurgent => ?_, fun value hdata hend hdrain => ?_⟩
  · rw [hgoes hmore, Nvs.nextCell_of_goes_on (n := s.nvs.programmed j) hk hon, Nvs.programmed, hcell, hword]
    rfl
  · rw [hgoes hmore]
    obtain ⟨hin, hnext⟩ := Nvs.nextCell_of_gives_way (n := s.nvs.programmed j) hk hclass hdrain hurgent
    exact ⟨hin, rfl, hnext⟩
  · have hwords : j.data.words.length = 2 := by rw [hdata]; rfl
    rw [cellProgrammed_eq hj, if_pos (by rw [hlast, decide_eq_true_eq]; omega), hdata]
    rw [completeJob, afterJob_of_running (by exact hdrain)]
    refine ⟨rfl, ?_⟩
    rw [Panel.withNvs_nvs, Nvs.beginNext_only]
    rfl

/-! ### The warnings under a new calibration (R119) -/

/-- Every entry of the list is of a kind that is enabled. -/
def EntriesEnabled (p : Panel) : Prop :=
  ∀ e ∈ p.wrc.entries, kindEnabled p.nvs.calibration.warningEnable e.kind = true

theorem entriesEnabled_iff (p : Panel) : EntriesEnabled p ↔
    ∀ k, p.wrc.entry k ≠ none → kindEnabled p.nvs.calibration.warningEnable k = true := by
  refine ⟨fun h k hk => ?_, fun h e he => ?_⟩
  · obtain ⟨e, he⟩ := Option.ne_none_iff_exists'.mp hk
    rw [← Wrc.kind_of_entry he]
    exact h e (List.mem_of_find?_eq_some he)
  · refine h e.kind fun hnone => ?_
    exact absurd (List.find?_eq_none.mp hnone e he) (by simp)

/-- A judgement raises enabled kinds alone. -/
theorem WarningsJudged.enabled {p q : Panel} (h : WarningsJudged p q) (hp : EntriesEnabled p) : EntriesEnabled q := by
  have hreach := h.1.reaches
  obtain ⟨_, hjudged, _⟩ := h
  rw [entriesEnabled_iff] at hp ⊢
  rw [hreach.nvs]
  intro k hk
  by_cases hlevel : q.wrc.levels.get k = p.wrc.levels.get k
  · exact hp k (hjudged.kept k hlevel ▸ hk)
  · cases hq : q.wrc.levels.get k with
    | false =>
      have hpk : p.wrc.levels.get k = true := by
        rw [hq] at hlevel
        simpa using Ne.symm hlevel
      exact absurd (hjudged.fallen k hpk hq) hk
    | true =>
      have hevent : isEvent k = false := by
        cases k <;> first | rfl | exact absurd rfl hlevel
      have hactive := ((hjudged.level k hevent).mp hq).1
      rw [kindActive, hreach.nvs, Bool.and_eq_true] at hactive
      exact hactive.1

theorem removeEntry_entries (k : WarningKind) (p : Panel) :
    (removeEntry k p).wrc.entries = p.wrc.entries.filter (fun e => e.kind != k) := rfl

/-- R119: one kind's entry taken from the list when the calibration disables it. -/
def entryDisabled (p : Panel) (k : WarningKind) : Panel :=
  if p.wrc.present k && !kindEnabled p.nvs.calibration.warningEnable k then removeEntry k p else p

theorem entryDisabled_only (p : Panel) (k : WarningKind) : WarningsOnly p (entryDisabled p k) := by
  unfold entryDisabled
  split
  · exact removeEntry_only k p
  · exact .refl p

theorem entryDisabled_entries (p : Panel) (k : WarningKind) : ∀ e ∈ (entryDisabled p k).wrc.entries,
    e ∈ p.wrc.entries ∧ (e.kind = k → kindEnabled p.nvs.calibration.warningEnable k = true) := by
  unfold entryDisabled
  intro e he
  split at he
  case isTrue =>
    rw [removeEntry_entries, List.mem_filter, bne_iff_ne] at he
    exact ⟨he.1, fun hk => absurd hk he.2⟩
  case isFalse h =>
    refine ⟨he, fun hk => ?_⟩
    have hpresent : p.wrc.present k = true := List.any_eq_true.mpr ⟨e, he, by rw [hk]; simp⟩
    rw [hpresent, Bool.true_and] at h
    simpa using h

theorem foldl_entryDisabled : ∀ (ks : List WarningKind) (p : Panel),
    WarningsOnly p (ks.foldl entryDisabled p) ∧ ∀ e ∈ (ks.foldl entryDisabled p).wrc.entries,
      e ∈ p.wrc.entries ∧ (e.kind ∈ ks → kindEnabled p.nvs.calibration.warningEnable e.kind = true)
  | [], p => ⟨.refl p, fun e he => ⟨he, fun h => absurd h List.not_mem_nil⟩⟩
  | k :: ks, p => by
    obtain ⟨honly, hrest⟩ := foldl_entryDisabled ks (entryDisabled p k)
    have hhead := entryDisabled_only p k
    refine ⟨hhead.trans honly, fun e he => ?_⟩
    obtain ⟨hin, hks⟩ := hrest e he
    obtain ⟨hp, hk⟩ := entryDisabled_entries p k e hin
    refine ⟨hp, fun hmem => ?_⟩
    rcases List.mem_cons.mp hmem with h | h
    · rw [h]
      exact hk h
    · rw [← hhead.reaches.nvs]
      exact hks h

theorem mem_allKinds (k : WarningKind) : k ∈ allKinds := by
  cases k <;> decide

theorem takeCalibrationWarnings_eq (p : Panel) :
    takeCalibrationWarnings p = settleWarnings (allKinds.foldl entryDisabled (judgeLevels p)) := rfl

theorem EntriesEnabled.settled {p : Panel} (h : EntriesEnabled p) : EntriesEnabled (settleWarnings p) := h

theorem takeCalibrationWarnings_enabled (p : Panel) : EntriesEnabled (takeCalibrationWarnings p) := by
  rw [takeCalibrationWarnings_eq]
  generalize judgeLevels p = q
  obtain ⟨honly, hrest⟩ := foldl_entryDisabled allKinds q
  refine EntriesEnabled.settled fun e he => ?_
  rw [honly.reaches.nvs]
  exact (hrest e he).2 (mem_allKinds e.kind)

theorem rangeInputsChanged_enabled {p : Panel} (h : EntriesEnabled p) : EntriesEnabled (rangeInputsChanged p) := by
  refine (rangeInputsChanged_reach p).enabled ?_
  unfold Panel.withRange
  split <;> exact h

theorem judgeFaultIndication_enabled {p : Panel} (h : EntriesEnabled p) : EntriesEnabled (judgeFaultIndication p) := by
  refine (judgeFaultIndication_reach p).enabled ?_
  unfold Panel.withFaults
  split <;> exact h

theorem evaluate_enabled {p : Panel} (h : EntriesEnabled p) : EntriesEnabled (evaluate p) := by
  obtain ⟨q, hq, hjudged⟩ := evaluate_reach p
  have hqe : EntriesEnabled q := by rcases hq with rfl | rfl | rfl <;> exact h
  rcases hjudged with heq | hjudged
  · exact heq ▸ hqe
  · exact hjudged.enabled hqe

/-! ### A bank switch (R170, R41, R119) -/

theorem readRun_write_outside {cells : List (Nat × StoreWord)} (hwf : Memory.wf cells = true) {i first count : Nat}
    {v : StoreWord} (h : i < first ∨ first + count ≤ i) :
    readRun (Memory.write i v cells) first count = readRun cells first count := by
  refine List.map_congr_left fun k hk => Memory.read_write_other _ _ _ _ hwf ?_
  have := List.mem_range.mp hk
  omega

theorem bankWords_write_selector {cells : List (Nat × StoreWord)} (hwf : Memory.wf cells = true) (bank : Bank)
    (v : StoreWord) : bankWords (Memory.write 89 v cells) bank = bankWords cells bank :=
  readRun_write_outside hwf (.inl (by cases bank <;> decide))

theorem notifyLink_noticed (k : NoticeKind) (l : Link) (p : Panel) : Noticed k l (notifyLink k l p) := by
  have hport : (notifyLink k l p).lnk.ports.get l = (p.lnk.ports.get l).notify k := PerLink.get_set_self ..
  rw [Noticed, hport, LinkPort.notify, BitVec.and_comm, BitVec.and_or_distrib_left, BitVec.and_self]
  ext i hi
  simp only [BitVec.getElem_or, BitVec.getElem_and]
  cases k.bit[i] <;> simp

theorem completeBankSwitch_enabled (bank : Bank) (p : Panel) : EntriesEnabled (completeBankSwitch bank p) := by
  rw [completeBankSwitch_eq]
  exact judgeFaultIndication_enabled (evaluate_enabled (rangeInputsChanged_enabled (takeCalibrationWarnings_enabled _)))

theorem completeBankSwitch_trips (bank : Bank) (p : Panel) : (completeBankSwitch bank p).trc.trips = p.trc.trips := by
  have hreach := (judgeFaultIndication_reaches _).after (ds := [.svm, .chk, .wrc, .lnk])
    (evaluate_reaches (rangeInputsChanged (takeCalibrationWarnings (bankTaken bank p))))
  rw [completeBankSwitch_eq, (notifyLink_reaches _ _ _).trc, hreach.trc, rangeInputsChanged_trc,
    (takeCalibrationWarnings_only _).reaches.trc]
  rfl

/-- Settles O33: the selector's last cell completes the switch, and the store then begins its next job. -/
theorem aBankSwitchCompletes : Obligations.ABankSwitchCompletes := by
  unfold Obligations.ABankSwitchCompletes
  intro s j bank check hp hj hdata hk hdrain hwf
  have hcells : (s.nvs.programmed j).cells = Memory.write 89 check s.nvs.cells := by
    unfold Nvs.programmed Nvs.currentWord Nvs.currentCell
    rw [hk, hdata]
    rfl
  have hlast : (s.nvs.programmed j).lastCell j = true := by
    unfold Nvs.lastCell Nvs.currentCell
    rw [hk, hdata]
    rfl
  let p : Panel := s.toPanel.withNvs { s.nvs.programmed j with inFlight := none, cellTimer := none }
  have hcomplete : completeJob j.data p = completeBankSwitch bank p := by
    rw [hdata]
    unfold completeJob
    dsimp only
    rw [if_neg (by decide), if_pos (by rfl), List.getD_cons_zero]
    cases bank <;> rfl
  have hreach := completeBankSwitch_reaches bank p
  have hcal : calibrationOf p.nvs.cells (some bank) = decodeBank (bankWords s.nvs.cells bank) := by
    rw [show p.nvs.cells = _ from hcells]
    exact congrArg decodeBank (bankWords_write_selector hwf bank check)
  have hnvs : (completeBankSwitch bank p).nvs = { p.nvs with
      activeBank := some bank, calibration := decodeBank (bankWords s.nvs.cells bank), calFault := false
      switchInFlight := false } := by
    rw [hreach.nvs, ← hcal]
    rfl
  have heq : cellProgrammed s.toPanel =
      (completeBankSwitch bank p).withNvs (completeBankSwitch bank p).nvs.beginNext := by
    rw [cellProgrammed_eq hj, if_pos hlast, hcomplete, afterJob_of_running]
    rw [hnvs]
    exact hdrain
  have hstore := Nvs.beginNext_only (completeBankSwitch bank p).nvs
  refine ⟨_, exec_eq_effect hp, ?_⟩
  rw [commandEffect, heq, Panel.withNvs_nvs, hstore, hnvs]
  refine ⟨rfl, rfl, rfl, rfl, ?_, completeBankSwitch_trips bank p, hreach.pcu, hreach.gdr, ?_,
    notifyLink_noticed .store .service _⟩
  · rw [Panel.withNvs_dfa, hreach.dfa]
    unfold bankTaken Dfa.takeCalibration Dfa.clampEstimate
    dsimp only
    rw [hcal, funext fun n => clampAt_eq_min (decodeBank (bankWords s.nvs.cells bank)).tankCapacity n]
    rfl
  · have henabled := completeBankSwitch_enabled bank p
    unfold EntriesEnabled at henabled
    rw [hnvs] at henabled
    exact henabled

end Sys2Proof.Machine
end

section
/-! PROOFS. A recovery in STARTUP, where no warning can stand and no message waits (R154 to R158). -/

namespace Sys2Proof.Machine

open Sys2Proof

/-! ### A part that starts up -/

/-- A part whose recovery nothing disturbs: as a reset leaves it. -/
structure StartingUp (p : Panel) : Prop where
  warnings : p.wrc = Wrc.reset
  check : p.chk = { Chk.reset with faultIndication := p.chk.faultIndication }
  mode : p.pmc.mode = .startup
  supply : p.pmc.supplyLow = false
  ignition : (p.sws.inputs.get .ignOn).accepted = .unsettled
  ports : ∀ l, (p.lnk.ports.get l).waiting = none

theorem kindMode_startup (k : WarningKind) : kindMode k .startup = false := by cases k <;> rfl

theorem StartingUp.kindActive {p : Panel} (h : StartingUp p) (k : WarningKind) : kindActive p k = false := by
  rw [Machine.kindActive, h.mode, kindMode_startup, Bool.and_false]

theorem levels_get_reset (k : WarningKind) : Wrc.reset.levels.get k = false := by cases k <;> rfl

theorem StartingUp.judgeKind {p : Panel} (h : StartingUp p) (k : WarningKind) : judgeKind k p = p := by
  have hlevel : nextLevel p k = p.wrc.levels.get k := by simp [nextLevel, h.kindActive k, h.warnings, levels_get_reset]
  rw [Machine.judgeKind, if_pos hlevel]

theorem StartingUp.judgeLevels {p : Panel} (h : StartingUp p) : judgeLevels p = p := by
  have hparts : judgeBatteryParts p = p := by
    unfold judgeBatteryParts nextBatteryLow nextBatteryHigh
    simp only [h.kindActive, Bool.not_false, if_true]
    have hwrc := h.warnings
    obtain ⟨powered, pcu, sws, adc, dfa, trc, gdr, wrc, svm, chk, nvs, lnk, pmc⟩ := p
    subst hwrc
    rfl
  have hkinds : ∀ ks : List WarningKind, ks.foldl (fun q k => Machine.judgeKind k q) p = p := by
    intro ks
    induction ks with
    | nil => rfl
    | cons k ks ih => rw [List.foldl_cons, h.judgeKind k, ih]
  rw [Machine.judgeLevels, hparts, hkinds]

/-- In STARTUP nothing is judged on: no kind is active, no player plays, and no lamp is lit. -/
theorem StartingUp.judgeWarnings {p : Panel} (h : StartingUp p) : judgeWarnings p = p := by
  have hlamp : ∀ l, judgeLamp (p.withWrc p.wrc.settlePlayers) l = LampState.reset := by
    intro l
    have hwanted : lampWanted (p.withWrc p.wrc.settlePlayers) l = false := by
      unfold lampWanted
      rw [Panel.withWrc_pmc, h.mode]
    have hblocked : (p.wrc.settlePlayers.lamps.get l).blocked = false := by
      rw [h.warnings]
      cases l <;> rfl
    have htest : lampUnderTest (p.withWrc p.wrc.settlePlayers) l = false := by
      unfold lampUnderTest
      rw [Panel.withWrc_chk, h.check]
      rfl
    unfold judgeLamp
    rw [hwanted, htest, Panel.withWrc_wrc, hblocked]
    rfl
  have hplayers : p.wrc.settlePlayers = p.wrc := by
    rw [h.warnings]
    rfl
  rw [Machine.judgeWarnings, h.judgeLevels, settleWarnings, settleLamps, funext hlamp, hplayers]
  have hwrc := h.warnings
  obtain ⟨powered, pcu, sws, adc, dfa, trc, gdr, wrc, svm, chk, nvs, lnk, pmc⟩ := p
  subst hwrc
  rfl

/-- What leaves the check, the mode, the inputs and the ports leaves the part starting up. -/
theorem StartingUp.of_reaches {p q : Panel} (h : StartingUp p) {bs : List Block} (hreach : Reaches bs p q)
    (hb : ∀ b ∈ bs, b ∉ [Block.wrc, .chk, .pmc, .sws, .lnk]) : StartingUp q where
  warnings := by rw [hreach.wrc (fun hm => hb _ hm (by decide)), h.warnings]
  check := by rw [hreach.chk (fun hm => hb _ hm (by decide))]; exact h.check
  mode := by rw [hreach.pmc (fun hm => hb _ hm (by decide)), h.mode]
  supply := by rw [hreach.pmc (fun hm => hb _ hm (by decide)), h.supply]
  ignition := by rw [hreach.sws (fun hm => hb _ hm (by decide)), h.ignition]
  ports := by rw [hreach.lnk (fun hm => hb _ hm (by decide))]; exact h.ports

theorem StartingUp.withIndication {p : Panel} (h : StartingUp p) (b : Bool) :
    StartingUp (p.withChk { p.chk with faultIndication := b }) :=
  ⟨h.warnings, by rw [Panel.withChk_chk, h.check], h.mode, h.supply, h.ignition, h.ports⟩

theorem StartingUp.evaluateFirst {p : Panel} (h : StartingUp p) :
    evaluateFirst p = p.withSvm { p.svm with items := evaluatedItems p } :=
  (h.of_reaches (withSvm_reaches _ p) (by decide)).judgeWarnings

theorem StartingUp.formFaultIndication {p : Panel} (h : StartingUp p) :
    formFaultIndication p = p.withChk { p.chk with faultIndication := faultTerms p } :=
  (h.withIndication (faultTerms p)).judgeWarnings

theorem StartingUp.rangeInputsChanged {p : Panel} (h : StartingUp p) (hdone : p.nvs.recoveryDone = true) :
    rangeInputsChanged p = p.withTrc { p.trc with lastRange := some (rangeKm p) } := by
  rw [Machine.rangeInputsChanged, if_pos hdone]
  exact (h.of_reaches (withTrc_reaches _ p) (by decide)).judgeWarnings

/-! ### The jobs of the recovery -/

theorem queueJob_of_released {j : WriteJob} {p : Panel} (h : p.pmc.supplyLow = false) :
    queueJob j p = p.withNvs ({ p.nvs with queue := p.nvs.join j } : Nvs).beginNext := by
  unfold queueJob
  rw [purgeIfSupplyLow_of_released (by exact h)]
  rfl

/-- No job is removed, so that no notice is posted. -/
structure JoinedQuietly (p q : Panel) : Prop where
  only : QueueOnly p q
  lnk : p.pmc.supplyLow = false → q.lnk = p.lnk

theorem JoinedQuietly.refl (p : Panel) : JoinedQuietly p p := ⟨.refl p, fun _ => rfl⟩

theorem JoinedQuietly.after {p q r : Panel} (k : JoinedQuietly q r) (h : JoinedQuietly p q) : JoinedQuietly p r :=
  ⟨h.only.trans k.only, fun hlow => (k.lnk (h.only.reaches.pmc ▸ hlow)).trans (h.lnk hlow)⟩

theorem JoinedQuietly.ite {c : Prop} [Decidable c] {p q r : Panel} (h : JoinedQuietly p q) (k : JoinedQuietly p r) :
    JoinedQuietly p (if c then q else r) := by
  split
  · exact h
  · exact k

theorem queueInternal_quietly (d : JobData) (p : Panel) : JoinedQuietly p (queueInternal d p) := by
  refine ⟨queueInternal_only d p, fun hlow => ?_⟩
  unfold queueInternal
  split
  · rfl
  · rw [queueJob_of_released hlow]
    rfl

theorem queueItemJobs_quietly (p : Panel) : JoinedQuietly p (queueItemJobs p) := by
  unfold queueItemJobs
  exact List.foldlRecOn allSlots _ (.refl p) fun q hq i _ =>
    JoinedQuietly.after (.ite (queueInternal_quietly _ q) (.refl q)) hq

theorem queueRecoveryJobs_quietly (dayLost : Bool) (p : Panel) :
    JoinedQuietly p (queueRecoveryJobs dayLost p) := by
  unfold queueRecoveryJobs
  extract_lets format day
  have hformat : JoinedQuietly p format := .ite (.refl p) (queueInternal_quietly _ p)
  have hday : JoinedQuietly format day := .ite (queueInternal_quietly _ format) (.refl format)
  exact (queueItemJobs_quietly day).after (hday.after hformat)

/-- Data of which neither includes the other. -/
structure JobData.Apart (a b : JobData) : Prop where
  left : a.covers b = false
  right : b.covers a = false

/-- A job apart from every job held neither takes its place nor merges with it. -/
theorem queueInternal_holds_still {p : Panel} {d e : JobData} (hlow : p.pmc.supplyLow = false)
    (h : p.nvs.Holds d) (hapart : d.Apart e) : (queueInternal e p).nvs.Holds d := by
  unfold queueInternal
  split
  · exact h
  · obtain ⟨x, hx | hx, hdata⟩ := h
    · have hmem : x ∈ p.nvs.join ⟨e, .normal, .internal, none⟩ :=
        Nvs.mem_join_of_apart hx (hdata ▸ hapart.left) (hdata ▸ hapart.right)
      exact queueJob_has (lasting_data d) hmem hdata (.inl hlow)
    · exact queueJob_has_of_inFlight (lasting_data d) hx hdata

theorem queueItemJobs_holds_still {p : Panel} {d : JobData} (hlow : p.pmc.supplyLow = false)
    (h : p.nvs.Holds d) (hapart : ∀ i it, d.Apart (itemJobData i it)) : (queueItemJobs p).nvs.Holds d := by
  have hstep : (queueItemJobs p).pmc.supplyLow = false ∧ (queueItemJobs p).nvs.Holds d := by
    unfold queueItemJobs
    refine List.foldlRecOn (motive := fun q : Panel => q.pmc.supplyLow = false ∧ q.nvs.Holds d) allSlots _ ⟨hlow, h⟩
      fun q ⟨hqlow, hq⟩ i _ => ?_
    split
    · exact ⟨(queueInternal_reaches _ q).pmc ▸ hqlow, queueInternal_holds_still hqlow hq (hapart i _)⟩
    · exact ⟨hqlow, hq⟩
  exact hstep.2

/-- The first job of an idle store begins at once. -/
theorem queueInternal_idle {p : Panel} (d : JobData) (hq : p.nvs.queue = []) (hfree : p.nvs.inFlight = none)
    (hdrain : p.nvs.draining = false) (hlow : p.pmc.supplyLow = false) :
    (queueInternal d p).nvs = p.nvs.begin ⟨d, .normal, .internal, none⟩ [] := by
  have hslots : ¬p.nvs.freeSlots < 3 := by simp [Nvs.freeSlots, Nvs.jobCount, hq, hfree]
  rw [queueInternal, if_neg hslots, queueJob_of_released hlow, Panel.withNvs_nvs]
  have hjoin : p.nvs.join ⟨d, .normal, .internal, none⟩ = [⟨d, .normal, .internal, none⟩] := by
    simp [Nvs.join, hq, insertByClass]
  simp only [Nvs.beginNext, hjoin, hfree, hdrain, Nvs.begin]
  cases d <;> rfl

theorem cells_covers_cells (f g : Nat) (ws vs : List StoreWord) : (JobData.cells f ws).covers (.cells g vs) =
    (decide (f ≤ g) && decide (g + vs.length ≤ f + ws.length)) := rfl

theorem cells_apart {f g : Nat} {ws vs : List StoreWord} (h : f + ws.length ≤ g ∨ g + vs.length ≤ f)
    (hw : 0 < ws.length) (hv : 0 < vs.length) : (JobData.cells f ws).Apart (.cells g vs) := by
  constructor
  all_goals
    rw [cells_covers_cells, ← Bool.decide_and, decide_eq_false_iff_not]
    omega

theorem SlotId.idx_lt (i : SlotId) : i.idx < 6 := by cases i <;> decide

/-- A job outside the service table is apart from every item's job. -/
theorem itemJobData_apart {first : Nat} {words : List StoreWord} (h : first + words.length ≤ 64 ∨ 88 ≤ first)
    (hw : 0 < words.length) (i : SlotId) (it : ServiceItem) : (JobData.cells first words).Apart (itemJobData i it) := by
  have hitem : (itemWords it).length = 4 := rfl
  have hidx := i.idx_lt
  refine cells_apart ?_ hw (by omega)
  unfold SlotId.firstCell
  omega

end Sys2Proof.Machine
end

section
/-! PROOFS. What a recovery leaves, and the power-on reset. Settles O34. -/

namespace Sys2Proof.Machine

open Sys2Proof

/-- R156 to R158: what a recovery of `p` leaves: the estimate clamped, the items recovered and graded, the fault
indication and the range formed, and the recovery's jobs queued. -/
structure Recovered (p q : Panel) : Prop where
  powered : q.powered = p.powered
  pcu : q.pcu = p.pcu
  sws : q.sws = p.sws
  adc : q.adc = p.adc
  dfa : q.dfa = p.dfa.clampEstimate p.nvs.calibration.tankCapacity
  trc : q.trc = { p.trc with lastRange := q.trc.lastRange }
  gdr : q.gdr = { p.gdr with calibration := p.nvs.calibration.forGauges }
  wrc : q.wrc = p.wrc
  svm : q.svm = { p.svm with items := q.svm.items }
  items : ∀ i, { q.svm.items.get i with state := .inactive } = { (recoveredItem p i).1 with state := .inactive }
  graded : q.itemsGraded
  chk : q.chk = { p.chk with faultIndication := faultTerms q }
  lnk : q.lnk = p.lnk
  pmc : q.pmc = p.pmc
  nvs : q.nvs = { p.nvs with
    queue := q.nvs.queue, inFlight := q.nvs.inFlight, cellTimer := q.nvs.cellTimer, recoveryDone := true }

/-- The part recovered, before the recovery's jobs. -/
def recoveryFormed (p : Panel) : Panel :=
  let r := (itemsRecovered p).withSvm { (itemsRecovered p).svm with items := evaluatedItems (itemsRecovered p) }
  r.withChk { r.chk with faultIndication := faultTerms r }

theorem recoveryFormed_eq {p : Panel} (h : StartingUp p) :
    formFaultIndication (evaluateFirst (itemsRecovered p)) = recoveryFormed p := by
  have hitems : StartingUp (itemsRecovered p) := h.of_reaches (itemsRecovered_reaches p) (by decide)
  rw [hitems.evaluateFirst, (hitems.of_reaches (withSvm_reaches _ _) (by decide)).formFaultIndication]
  rfl

theorem recoveryFormed_startingUp {p : Panel} (h : StartingUp p) : StartingUp (recoveryFormed p) := by
  have hitems : StartingUp (itemsRecovered p) := h.of_reaches (itemsRecovered_reaches p) (by decide)
  exact (hitems.of_reaches (withSvm_reaches _ _) (by decide)).withIndication _

theorem takeWaiting_of_none {l : Link} {p : Panel} (h : (p.lnk.ports.get l).waiting = none) : takeWaiting l p = p := by
  unfold takeWaiting
  dsimp only
  rw [h]

theorem leaveStartup_of_unsettled {p : Panel} (h : (p.sws.inputs.get .ignOn).accepted = .unsettled) :
    leaveStartup p = p := by
  rw [leaveStartup, if_neg fun hc => hc.2.2 h]

/-- The part at the end of its recovery. -/
def recoveryEnded (dayLost : Bool) (p : Panel) : Panel :=
  let q := Panel.onNvs Nvs.recovered (queueRecoveryJobs dayLost (recoveryFormed p))
  q.withTrc { q.trc with lastRange := some (rangeKm q) }

theorem queued_startingUp {p q : Panel} (h : StartingUp p) (hq : JoinedQuietly p q) : StartingUp q := by
  have hreach := hq.only.reaches
  have hlnk := hq.lnk h.supply
  exact ⟨hreach.wrc.trans h.warnings, hreach.chk ▸ h.check, hreach.pmc ▸ h.mode, hreach.pmc ▸ h.supply,
    hreach.sws ▸ h.ignition, hlnk ▸ h.ports⟩

/-- A recovery that nothing disturbs takes no message and leaves STARTUP to the settling of the ignition. -/
theorem finishRecovery_startingUp {p : Panel} (h : StartingUp p) (dayLost : Bool) :
    finishRecovery dayLost p = recoveryEnded dayLost p := by
  have hqueued : StartingUp (Panel.onNvs Nvs.recovered (queueRecoveryJobs dayLost (recoveryFormed p))) :=
    (queued_startingUp (recoveryFormed_startingUp h) (queueRecoveryJobs_quietly dayLost _)).of_reaches
      (onNvs_reaches _ _) (by decide)
  have hdelivered : recoveryDelivered dayLost p = recoveryEnded dayLost p := by
    rw [recoveryDelivered, recoveryFormed_eq h, hqueued.rangeInputsChanged rfl]
    rfl
  have hended : StartingUp (recoveryEnded dayLost p) := hqueued.of_reaches (withTrc_reaches _ _) (by decide)
  rw [finishRecovery_eq, hdelivered, takeWaiting_of_none (hended.ports .front),
    takeWaiting_of_none (hended.ports .rear), takeWaiting_of_none (hended.ports .service),
    leaveStartup_of_unsettled hended.ignition]

theorem recoveryEnded_recovered (dayLost : Bool) {p : Panel} (h : p.pmc.supplyLow = false) :
    Recovered p (recoveryEnded dayLost p) := by
  have hquiet := queueRecoveryJobs_quietly dayLost (recoveryFormed p)
  have hreach := hquiet.only.reaches
  have hnvs := hquiet.only.nvs
  have hsvm : (recoveryEnded dayLost p).svm = (recoveryFormed p).svm := hreach.svm
  have hended : (recoveryEnded dayLost p).nvs = { p.nvs with
      queue := (recoveryEnded dayLost p).nvs.queue, inFlight := (recoveryEnded dayLost p).nvs.inFlight
      cellTimer := (recoveryEnded dayLost p).nvs.cellTimer, recoveryDone := true } := congrArg Nvs.recovered hnvs
  have hcal : (recoveryEnded dayLost p).nvs.calibration = p.nvs.calibration := by rw [hended]
  have hfault : (recoveryEnded dayLost p).nvs.calFault = p.nvs.calFault := by rw [hended]
  have hdfa : (recoveryEnded dayLost p).dfa = p.dfa.clampEstimate p.nvs.calibration.tankCapacity := hreach.dfa
  have hitem : ∀ i, (recoveryFormed p).svm.items.get i = { (recoveredItem p i).1 with
      state := itemState p.nvs.calibration (odoKm p) p.svm.dayCount (recoveredItem p i).1 } := by
    intro i
    refine (evaluatedItems_get (itemsRecovered p) i).trans ?_
    simp only [itemsRecovered, PerSlot.get_of]
    rfl
  have hodo : odoKm (recoveryEnded dayLost p) = odoKm p := by rw [odoKm, hdfa]; rfl
  have hterms : faultTerms (recoveryEnded dayLost p) = faultTerms (itemsRecovered p) := by
    unfold faultTerms senderFault
    rw [hfault, hdfa, show (recoveryEnded dayLost p).adc = p.adc from hreach.adc,
      show (recoveryEnded dayLost p).chk = (recoveryFormed p).chk from hreach.chk]
    rfl
  exact {
    powered := hreach.powered, pcu := hreach.pcu, sws := hreach.sws, adc := hreach.adc, dfa := hdfa
    trc := congrArg (fun t : Trc => { t with lastRange := (recoveryEnded dayLost p).trc.lastRange }) hreach.trc
    gdr := hreach.gdr, wrc := hreach.wrc
    svm := congrArg (fun v : Svm => { v with items := (recoveryEnded dayLost p).svm.items }) hsvm
    items := fun i => by rw [hsvm, hitem]
    graded := fun i => by rw [hsvm, hcal, hodo, hitem]; rfl
    chk := by rw [hterms]; exact hreach.chk
    lnk := hquiet.lnk h, pmc := hreach.pmc
    nvs := hended }

/-! ### The power-on reset -/

/-- The part that a power-on reset recovers. -/
def poweredOn (units rear : Bool) (p : Panel) : Panel := recoveredValues (powerOnValues units rear p)

theorem poweredOn_startingUp (units rear : Bool) (p : Panel) : StartingUp (poweredOn units rear p) where
  warnings := rfl
  check := rfl
  mode := rfl
  supply := rfl
  ignition := rfl
  ports := fun l => by cases l <;> rfl

theorem powerOnReset_eq {units rear : Bool} {p : Panel} (h : p.powered = false) : powerOnReset units rear p =
    recoveryEnded (recoverDay (formatMatches p.nvs.cells) p.nvs.cells).isNone (poweredOn units rear p) := by
  rw [powerOnReset, h, if_neg Bool.false_ne_true, recoverPowerOn_eq]
  exact finishRecovery_startingUp (poweredOn_startingUp units rear p) _

/-- A store with nothing to write. -/
structure Nvs.Idle (n : Nvs) : Prop where
  queue : n.queue = []
  inFlight : n.inFlight = none
  draining : n.draining = false

theorem queueInternal_holds_of_empty {p : Panel} (d : JobData) (hq : p.nvs.queue = [])
    (hlow : p.pmc.supplyLow = false) : (queueInternal d p).nvs.Holds d := by
  have hcount : p.nvs.jobCount ≤ 5 := by
    rw [Nvs.jobCount, hq]
    cases p.nvs.inFlight <;> simp
  exact queueInternal_holds hcount hlow fun q hmem => by simp [hq] at hmem

theorem dayWords_length (n : Nat) : (dayWords n).length = 2 := rfl

/-- R158: the format code is written where it was not good. -/
theorem queueRecoveryJobs_format {p : Panel} (h : p.nvs.Idle) (hlow : p.pmc.supplyLow = false)
    (hbad : p.nvs.formatGood = false) (dayLost : Bool) :
    (queueRecoveryJobs dayLost p).nvs.Holds (.cells formatCell [formatCode]) := by
  unfold queueRecoveryJobs
  rw [hbad, if_neg Bool.false_ne_true]
  have hformat := queueInternal_holds_of_empty (.cells formatCell [formatCode]) h.queue hlow
  have hlow' : (queueInternal (.cells formatCell [formatCode]) p).pmc.supplyLow = false :=
    (queueInternal_reaches _ p).pmc ▸ hlow
  dsimp only
  have hitems := itemJobData_apart (first := formatCell) (words := [formatCode]) (.inr (by decide)) (by decide)
  have hday : ∀ q : Panel, q.pmc.supplyLow = false → ∀ d, (queueInternal d q).pmc.supplyLow = false := by
    intro q hq d
    rw [(queueInternal_reaches d q).pmc, hq]
  split
  · refine queueItemJobs_holds_still (hday _ hlow' _) ?_ hitems
    exact queueInternal_holds_still hlow' hformat
      (cells_apart (.inr (by rw [dayWords_length]; decide)) (by decide) (by rw [dayWords_length]; decide))
  · exact queueItemJobs_holds_still hlow' hformat hitems

/-- R158: a day count that was not good is written. -/
theorem queueRecoveryJobs_day {p : Panel} (h : p.nvs.Idle) (hlow : p.pmc.supplyLow = false) :
    (queueRecoveryJobs true p).nvs.Holds (.cells 32 (dayWords p.svm.dayCount)) := by
  unfold queueRecoveryJobs
  extract_lets format day
  have hformat : format.nvs.queue = [] ∧ format.pmc.supplyLow = false ∧ format.svm = p.svm := by
    rcases Bool.eq_false_or_eq_true p.nvs.formatGood with hgood | hbad
    · have heq : format = p := if_pos hgood
      rw [heq]
      exact ⟨h.queue, hlow, rfl⟩
    · have heq : format = queueInternal (.cells formatCell [formatCode]) p :=
        if_neg (by rw [hbad]; exact Bool.false_ne_true)
      rw [heq, queueInternal_idle _ h.queue h.inFlight h.draining hlow]
      exact ⟨rfl, (queueInternal_reaches _ p).pmc ▸ hlow, (queueInternal_reaches _ p).svm⟩
  obtain ⟨hqueue, hflow, hsvm⟩ := hformat
  have hday := queueInternal_holds_of_empty (.cells 32 (dayWords format.svm.dayCount)) hqueue hflow
  rw [hsvm] at hday
  refine queueItemJobs_holds_still ((queueInternal_reaches _ format).pmc ▸ hflow) (hsvm ▸ hday)
    (itemJobData_apart (.inl (by rw [dayWords_length]; decide)) (by rw [dayWords_length]; decide))

theorem recoveryEnded_holds {dayLost : Bool} {p : Panel} {d : JobData}
    (h : (queueRecoveryJobs dayLost (recoveryFormed p)).nvs.Holds d) : (recoveryEnded dayLost p).nvs.Holds d := h

theorem poweredOn_idle (units rear : Bool) (p : Panel) : (recoveryFormed (poweredOn units rear p)).nvs.Idle :=
  ⟨rfl, rfl, rfl⟩

theorem keepAliveLost_of_idle {p : Panel} (h : p.nvs.inFlight = none) :
    keepAliveLost p = { p with powered := false } := by
  unfold keepAliveLost
  rw [h]
  rfl

theorem keepAliveLost_of_inFlight {p : Panel} {j : WriteJob} {k : Nat} (h : p.nvs.inFlight = some j)
    (hk : j.progress = some k) : keepAliveLost p = { p with
      powered := false
      nvs := { p.nvs with
        cells := Memory.write k (Config.unknownCell p.nvs.unknownCount) p.nvs.cells
        unknownCount := p.nvs.unknownCount + 1 } } := by
  unfold keepAliveLost
  rw [h]
  dsimp only
  rw [Nvs.currentCell, hk]
  rfl

/-- Settles O34: the loss by the job in flight, and the reset by what its recovery leaves (`Recovered`). -/
theorem aPowerOnReset : Obligations.APowerOnReset := by
  unfold Obligations.APowerOnReset
  refine ⟨fun s hp hfree => ?_, fun s j k hp hj hk => ?_, ?_⟩
  · rw [exec_eq_effect hp, commandEffect, keepAliveLost_of_idle hfree]
  · rw [exec_eq_effect hp, commandEffect, keepAliveLost_of_inFlight hj hk]
  rintro s units rear good hp rfl
  have h := recoveryEnded_recovered (recoverDay (formatMatches s.nvs.cells) s.nvs.cells).isNone
    (poweredOn_startingUp units rear s.toPanel).supply
  have hstarting := recoveryFormed_startingUp (poweredOn_startingUp units rear s.toPanel)
  refine ⟨_, exec_powerOnReset units rear s, ?_⟩
  rw [powerOnReset_eq hp]
  have hcal : (recoveryEnded (recoverDay (formatMatches s.nvs.cells) s.nvs.cells).isNone
    (poweredOn units rear s.toPanel)).nvs.calibration = (poweredOn units rear s.toPanel).nvs.calibration := by
    rw [h.nvs]
  refine ⟨h.powered, h.pcu, h.sws, h.adc, ?_, h.trc, hcal ▸ h.gdr, h.wrc, h.svm, ?_, h.graded, h.chk, h.lnk, h.pmc,
    h.nvs, fun hbad => ?_, fun hday => ?_⟩
  · rw [h.dfa, hcal]
    unfold Dfa.clampEstimate
    rw [funext fun n => clampAt_eq_min (poweredOn units rear s.toPanel).nvs.calibration.tankCapacity n]
    rfl
  · intro i
    rw [h.items, h.svm, h.dfa]
    rfl
  · exact recoveryEnded_holds (queueRecoveryJobs_format (poweredOn_idle units rear s.toPanel) hstarting.supply hbad _)
  · have hsvm := congrArg Svm.dayCount h.svm
    rw [hday] at hsvm ⊢
    rw [hsvm]
    exact recoveryEnded_holds (queueRecoveryJobs_day (poweredOn_idle units rear s.toPanel) hstarting.supply)

end Sys2Proof.Machine
end

section
/-! PROOFS. A restart. Settles O57. -/

namespace Sys2Proof.Machine

open Sys2Proof

/-- The part that a restart with no job begun recovers. -/
def restarted (units rear : Bool) (p : Panel) : Panel := restartedValues (restartValues units rear p)

theorem restarted_startingUp (units rear : Bool) (p : Panel) : StartingUp (restarted units rear p) where
  warnings := rfl
  check := rfl
  mode := rfl
  supply := rfl
  ignition := rfl
  ports := fun l => by cases l <;> rfl

theorem restartBegin_eq {units rear : Bool} {p : Panel} (harmed : p.lnk.restartArmed = true)
    (hfree : p.nvs.inFlight = none) (hnew : ∀ j ∈ p.nvs.queue, j.progress = none) :
    restartBegin units rear p = recoveryEnded false (restarted units rear p) := by
  have hbegun : (p.nvs.queue.any fun j => j.progress.isSome) = false :=
    List.any_eq_false.mpr fun j hj => by simp [hnew j hj]
  have hdrain : (restartValues units rear p).nvs.mustDrain = false := by
    show (p.nvs.inFlight.isSome || p.nvs.queue.any fun j => j.progress.isSome) = false
    rw [hfree, hbegun]
    rfl
  unfold restartBegin beginRestart
  dsimp only
  rw [if_pos harmed, hdrain, if_neg Bool.false_ne_true, recoverRestart_eq]
  exact finishRecovery_startingUp (restarted_startingUp units rear p) false

/-- R180: what the restart leaves of a port. -/
theorem restarted_port (units rear : Bool) (p : Panel) (l : Link) :
    { (restarted units rear p).lnk.ports.get l with cutOff := none } = Lnk.reset.ports.get l ∧
      ((restarted units rear p).lnk.ports.get l).cutOff =
        if l = .service then none else (p.lnk.ports.get l).reply.or (p.lnk.ports.get l).cutOff := by
  cases l
  · exact ⟨rfl, rfl⟩
  · exact ⟨rfl, rfl⟩
  · exact ⟨rfl, rfl⟩

theorem restarted_dfa (units rear : Bool) (p : Panel) : (restarted units rear p).dfa =
    { p.dfa with rd := 0, rf := 0, fuelSubCount := 0, fuelSampleTimer := none } := by
  unfold restarted restartedValues restartValues Dfa.restart Dfa.reload
  dsimp only
  rw [ite_self, ite_self]

/-- Settles O57: RESTART arms, and the restart recovers (`Recovered`) from what it kept. -/
theorem aRestartKeepsTheRecords : Obligations.ARestartKeepsTheRecords := by
  unfold Obligations.ARestartKeepsTheRecords
  refine ⟨fun s hready => ?_, fun s units rear hp harmed hfree hnew => ?_⟩
  · exact exec_request_of_answer (r := .restart) hready (answerRequest_permitted _ rfl)
  have h := recoveryEnded_recovered false (restarted_startingUp units rear s.toPanel).supply
  have hcal : (recoveryEnded false (restarted units rear s.toPanel)).nvs.calibration =
      (restarted units rear s.toPanel).nvs.calibration := by rw [h.nvs]
  refine ⟨_, exec_eq_effect hp, ?_⟩
  rw [commandEffect, restartBegin_eq harmed hfree hnew]
  refine ⟨h.powered.trans hp, by rw [h.nvs]; rfl, ?_, by rw [h.trc]; rfl, by rw [h.trc]; rfl, by rw [h.trc]; rfl,
    by rw [h.svm]; rfl, by rw [h.svm]; rfl, by rw [h.svm]; rfl, by rw [h.svm]; rfl, h.pcu, h.sws, hcal ▸ h.gdr, h.pmc,
    fun l => h.lnk ▸ restarted_port units rear s.toPanel l, by rw [h.lnk]; rfl, by rw [h.wrc]; rfl, by rw [h.chk]; rfl,
    by rw [h.nvs]; rfl, by rw [h.nvs]; rfl, by rw [h.nvs]; rfl, by rw [h.nvs]⟩
  rw [h.dfa, hcal, restarted_dfa]
  unfold Dfa.clampEstimate
  rw [funext fun n => clampAt_eq_min (restarted units rear s.toPanel).nvs.calibration.tankCapacity n]

end Sys2Proof.Machine
end

section
/-! PROOFS. Requests that a link may not make or must wait with, and the requests that read. Settles O41, O42, O44. -/

namespace Sys2Proof.Machine

open Sys2Proof

/-! ### Permissions (R187) -/

theorem permitted_service (r : Request) : permitted .service r = false ↔
    r = .call ∨ (∃ v, r = .overspeedSet v) ∨ (∃ v, r = .rearQuietSet v) ∨ ∃ v, r = .clockSet v := by
  cases r <;> simp [permitted]

theorem permitted_front (r : Request) : permitted .front r = false ↔
    (∃ v, r = .rearQuietSet v) ∨ ((∃ slot item, r = .serviceWrite slot item) ∨ r = .storeOpen ∨ r = .storeStatus ∨
      (∃ region index mode, r = .windowSelect region index mode) ∨ r = .windowRead ∨ (∃ v, r = .windowWrite v) ∨
      (∃ bank, r = .bankSwitch bank) ∨ (∃ v, r = .odometerSet v) ∨ r = .restart) := by
  cases r <;> simp [permitted]

theorem permitted_rear (r : Request) : permitted .rear r = false ↔
    ((∃ v, r = .overspeedSet v) ∨ (∃ slot, r = .serviceReset slot) ∨ r = .checkStart) ∨
    ((∃ slot item, r = .serviceWrite slot item) ∨ r = .storeOpen ∨ r = .storeStatus ∨
      (∃ region index mode, r = .windowSelect region index mode) ∨ r = .windowRead ∨ (∃ v, r = .windowWrite v) ∨
      (∃ bank, r = .bankSwitch bank) ∨ (∃ v, r = .odometerSet v) ∨ r = .restart) := by
  cases r <;> simp [permitted]

theorem submit_powered {l : Link} {r : Request} {s : State} (h : s.powered = true) :
    submit l r s = .next { s with toPanel := deliverMessage l (.good r) s.toPanel } := State.act_powered _ h

/-- R178: a message that arrives during a reply waits. -/
theorem deliverMessage_replying {l : Link} {m : Message} {p : Panel} (hw : (p.lnk.ports.get l).waiting = none)
    (hr : (p.lnk.ports.get l).reply.isSome = true) :
    deliverMessage l m p = p.withPort l { p.lnk.ports.get l with waiting := some m } := by
  have hbusy : ((p.lnk.ports.get l).reply.isNone && p.nvs.recoveryDone) = false := by
    rw [Option.isSome_iff_ne_none] at hr
    simp [hr]
  unfold deliverMessage
  dsimp only
  rw [hw]
  dsimp only
  rw [hbusy, if_neg Bool.false_ne_true]

/-- R178: a message that arrives while one waits is an overrun. -/
theorem deliverMessage_overrun {l : Link} {m : Message} {p : Panel}
    (hw : (p.lnk.ports.get l).waiting.isSome = true) : deliverMessage l m p =
      p.withPort l { p.lnk.ports.get l with overruns := countEvent (p.lnk.ports.get l).overruns } := by
  obtain ⟨w, hw⟩ := Option.isSome_iff_exists.mp hw
  unfold deliverMessage
  dsimp only
  rw [hw]

theorem countEvent_eq (n : Nat) : countEvent n = min 255 (n + 1) := clampAt_eq_min 255 (n + 1)

/-- Settles O41: by the link, and then by what its port holds. -/
theorem requestsAreTakenInTurn : Obligations.RequestsAreTakenInTurn := by
  unfold Obligations.RequestsAreTakenInTurn
  rintro s l r port refused rfl hrefused
  have hiff : permitted l r = false ↔ refused := by
    rw [hrefused]
    cases l
    case front => simp [permitted_front]
    case rear => simp [permitted_rear]
    case service => simp [permitted_service]
  refine ⟨hiff, fun hready href => ?_, fun hp hr hw => ?_, fun hp hw => ?_⟩
  · exact exec_request_of_answer hready (answerRequest_not_permitted _ (hiff.mpr href))
  · rw [exec_requestCommand, submit_powered hp, deliverMessage_replying hw hr]
    rfl
  · rw [exec_requestCommand, submit_powered hp, deliverMessage_overrun hw, countEvent_eq]
    rfl

/-! ### The reading requests -/

/-- A permitted request on a ready link is replied to as it is carried out. -/
theorem exec_permitted {l : Link} {r : Request} {s : State} {a : Answer} (hready : Ready l s)
    (hp : permitted l r = true) (ha : carryOut l r s.toPanel = a) :
    exec (requestCommand l r) s = .next (s.answered l a.status a.data a.panel) :=
  exec_request_of_answer hready ((answerRequest_permitted _ hp).trans ha)

theorem charFlag_eq (b : Bool) : charFlag b = char1 (if b then 1 else 0) := by cases b <;> rfl

theorem toNat_ne_eq {n : Nat} (x y : BitVec n) : (x != y).toNat = if x = y then 0 else 1 := by
  by_cases h : x = y <;> simp [h]

theorem presenceData_eq (l : Link) (p : Panel) : presenceData l p =
    char1 (match p.pmc.mode with | .startup => 0 | .run => 1 | .shutdown => 2 | .standby => 3) ++
      char1 ((if (p.lnk.ports.get l).noticeSet = 0 then 0 else 1) +
        (if (p.lnk.ports.get l).noticeSet &&& (p.lnk.ports.get l).noticeMask = 0 then 0 else 2)) := by
  have hmask : maskOf [(p.lnk.ports.get l).noticeSet != 0, (p.lnk.ports.get l).attentionLow] =
      (if (p.lnk.ports.get l).noticeSet = 0 then 0 else 1) +
        (if (p.lnk.ports.get l).noticeSet &&& (p.lnk.ports.get l).noticeMask = 0 then 0 else 2) := by
    unfold maskOf maskOf maskOf LinkPort.attentionLow
    rw [toNat_ne_eq, toNat_ne_eq, Nat.mul_zero, Nat.add_zero, mul_ite]
  unfold presenceData
  dsimp only
  rw [hmask]
  cases p.pmc.mode <;> rfl

theorem odometerData_eq (p : Panel) : odometerData p =
    char3 (if p.pmc.imperial then roundDiv (p.dfa.odometer * 10 * 100000) 1609344 else p.dfa.odometer) ++
      char1 ((if p.dfa.odoLost then 1 else 0) + (if p.pmc.imperial then 2 else 0)) := by
  have hmask : maskOf [p.dfa.odoLost, p.pmc.imperial] =
      (if p.dfa.odoLost then 1 else 0) + (if p.pmc.imperial then 2 else 0) := by
    cases p.dfa.odoLost <;> cases p.pmc.imperial <;> rfl
  rw [odometerData, odometerReply, duToMiles, hmask]

theorem entryData_length (e : WarningEntry) : (entryData e).length = 5 := rfl

theorem warningsData_length (p : Panel) : (warningsData p).length = 12 + 5 * p.wrc.entries.length := by
  have hentries : (p.wrc.entries.flatMap entryData).length = 5 * p.wrc.entries.length := by
    rw [List.length_flatMap, List.map_congr_left fun e _ => entryData_length e, List.map_const', List.sum_replicate,
      smul_eq_mul, Nat.mul_comm]
  simp only [warningsData, List.length_append, hentries, char1, char2, charFlag, List.length_cons, List.length_nil]
  omega

theorem entryData_eq (e : WarningEntry) : entryData e = char1 (kindNumber e.kind) ++
    char1 (e.conditionPresent.toNat + 2 * e.pending.front.toNat + 4 * e.pending.rear.toNat +
      8 * e.acked.front.toNat + 16 * e.acked.rear.toNat + 32 * e.resound.isSome.toNat) ++ char3 e.raisedAt := by
  have hmask : maskOf [e.conditionPresent, e.pending.front, e.pending.rear, e.acked.front, e.acked.rear,
      e.resound.isSome] = e.conditionPresent.toNat + 2 * e.pending.front.toNat + 4 * e.pending.rear.toNat +
        8 * e.acked.front.toNat + 16 * e.acked.rear.toNat + 32 * e.resound.isSome.toNat := by
    simp only [maskOf]
    omega
  rw [entryData, hmask]

theorem char2?_length (x : Option Nat) : (char2? x).length = 2 := by cases x <;> rfl

theorem char3?_length (x : Option Nat) : (char3? x).length = 3 := by cases x <;> rfl

theorem tripData_length (i : TripId) (p : Panel) : (tripData i p).length = 31 := by
  simp only [tripData, List.length_append, char2?_length, char3?_length]
  rfl

/-- R198: the previous counts of a record in a reply; where it has none, their nine characters are 0xFF. -/
def previousChars (p : Panel) : Option TripCounts → List Byte
  | none => List.replicate 9 0xFF
  | some c => char3 (duReply p c.distance) ++ char3 (mlReply p c.fuel) ++ char3 c.runTime

theorem previousChars_eq (p : Panel) (c : Option TripCounts) : previousChars p c =
    char3? (c.map fun c => duReply p c.distance) ++ char3? (c.map fun c => mlReply p c.fuel) ++
      char3? (c.map TripCounts.runTime) := by
  cases c <;> rfl

theorem maskOf_five (a b c d e : Bool) :
    maskOf [a, b, c, d, e] = a.toNat + 2 * b.toNat + 4 * c.toNat + 8 * d.toNat + 16 * e.toNat := by
  simp only [maskOf]
  omega

theorem TripId.beq_journey (i : TripId) : (i == .journey) = decide (i = .journey) := by cases i <;> rfl

theorem remaining_of_journey {i : TripId} (p : Panel) : (if i = .journey then remainingDistance p.trc else none) =
    (if i = .journey then p.trc.destinationKm else none).map
      (fun km => km * 100 - (p.trc.trips.get i).counts.distance) := by
  by_cases h : i = .journey
  · rw [if_pos h, if_pos h, h]
    rfl
  · rw [if_neg h, if_neg h]
    rfl

/-- R198: the reply of TRIP_READ. -/
theorem tripData_eq (i : TripId) (p : Panel) : tripData i p = char1 i.idx ++
    char1 ((p.trc.trips.get i).held.toNat + 2 * (p.trc.trips.get i).previous.isSome.toNat +
      4 * (if i = .journey then p.trc.destinationKm else none).isSome.toNat +
      8 * (decide (i = .journey) && p.trc.arrivalArmed).toNat + 16 * p.pmc.imperial.toNat) ++
    char3 (duReply p (p.trc.trips.get i).counts.distance) ++ char3 (mlReply p (p.trc.trips.get i).counts.fuel) ++
    char3 (p.trc.trips.get i).counts.runTime ++
    previousChars p (p.trc.trips.get i).previous ++
    char2? ((averageSpeed (p.trc.trips.get i).counts).map (kmReply p)) ++
    char2? (if p.pmc.imperial then averageEconomy (p.trc.trips.get i).counts
      else averageConsumption (p.trc.trips.get i).counts) ++
    char2? ((if i = .journey then p.trc.destinationKm else none).map (kmReply p)) ++
    char3? (((if i = .journey then p.trc.destinationKm else none).map
      (fun km => km * 100 - (p.trc.trips.get i).counts.distance)).map (duReply p)) ++
    char2? (if i = .journey then eta p.trc else none) := by
  simp only [tripData, TripId.beq_journey, decide_eq_true_eq, maskOf_five, previousChars_eq, List.append_assoc]
  rw [remaining_of_journey]

theorem carryOut_tripRead {i : TripId} {index : Byte} (h : TripId.ofIdx index.toNat = some i) (l : Link) (p : Panel) :
    carryOut l (.tripRead index) p = acceptData (tripData i p) p := by
  show takeTripRead index p = _
  rw [takeTripRead, h]

theorem TripId.ofIdx_idx (i : TripId) : TripId.ofIdx i.idx = some i := by cases i <;> rfl

theorem TripId.ofIdx_of_le {n : Nat} (h : 4 ≤ n) : TripId.ofIdx n = none := by
  unfold TripId.ofIdx
  split <;> first | omega | rfl

/-- Settles O42: each reading request answers its data. -/
theorem readsChangeNothingElse : Obligations.ReadsChangeNothingElse := by
  unfold Obligations.ReadsChangeNothingElse
  intro s l hready
  refine ⟨?_, ?_, ?_, exec_permitted (r := .identityRead) hready rfl rfl,
    exec_permitted (r := .valuesRead) hready rfl rfl,
    ⟨warningsData s.toPanel, exec_permitted (r := .warningsRead) hready rfl rfl, warningsData_length _, ?_⟩,
    exec_permitted (r := .serviceRead) hready rfl rfl, exec_permitted (r := .checkRead) hready rfl rfl, ?_,
    fun index hlarge => ?_, fun hl => ?_⟩
  · exact exec_permitted (r := .presence) hready rfl
      (a := acceptData _ s.toPanel) (congrArg (acceptData · s.toPanel) (presenceData_eq l s.toPanel))
  · refine exec_permitted (r := .clockRead) hready rfl (a := acceptData _ s.toPanel)
      (congrArg (acceptData · s.toPanel) ?_)
    rw [clockData, charFlag_eq]
  · exact exec_permitted (r := .odometerRead) hready rfl (a := acceptData _ s.toPanel)
      (congrArg (acceptData · s.toPanel) (odometerData_eq s.toPanel))
  · rw [warningsData, funext entryData_eq]
    rfl
  · rintro i index r destination remaining armed hindex rfl rfl rfl rfl
    refine ⟨tripData i s.toPanel, exec_permitted (r := .tripRead index) hready rfl
      (carryOut_tripRead (hindex ▸ TripId.ofIdx_idx i) l s.toPanel), tripData_length i s.toPanel, ?_⟩
    exact tripData_eq i s.toPanel
  · have hnone : carryOut l (.tripRead index) s.toPanel = refuse .badValue s.toPanel := by
      show takeTripRead index s.toPanel = _
      rw [takeTripRead, TripId.ofIdx_of_le hlarge]
    exact exec_permitted (r := .tripRead index) hready rfl hnone
  · subst hl
    exact exec_permitted (r := .storeStatus) hready rfl rfl

/-! ### The requests that clear what they read -/

theorem takeNoticeMaskSet_of_mask (l : Link) {mask : BitVec 16} (p : Panel) (h : mask.toNat < 512) :
    takeNoticeMaskSet l mask p =
      accept (p.withPort l { p.lnk.ports.get l with noticeMask := BitVec.ofNat 9 mask.toNat }) := by
  rw [takeNoticeMaskSet, judged_cons_of_holds _ _ _ _ (decide_eq_true h), judged_nil,
    show mask.setWidth 9 = BitVec.ofNat 9 mask.toNat from rfl]

theorem takeNoticeMaskSet_of_large (l : Link) {mask : BitVec 16} (p : Panel) (h : 512 ≤ mask.toNat) :
    takeNoticeMaskSet l mask p = refuse .badValue p :=
  judged_cons_of_fails _ _ _ _ (decide_eq_false (Nat.not_lt.mpr h))

/-- Settles O44: each reads and clears its own link's port or seen changes. -/
theorem clearingReadsClearTheirOwnLink : Obligations.ClearingReadsClearTheirOwnLink := by
  unfold Obligations.ClearingReadsClearTheirOwnLink
  rintro s l port hready rfl
  exact ⟨exec_permitted (r := .noticesRead) hready rfl rfl, exec_permitted (r := .errorsRead) hready rfl rfl,
    exec_permitted (r := .inputsRead) hready rfl rfl,
    fun mask h => exec_permitted (r := .noticeMaskSet mask) hready rfl (takeNoticeMaskSet_of_mask l s.toPanel h),
    fun mask h => exec_permitted (r := .noticeMaskSet mask) hready rfl (takeNoticeMaskSet_of_large l s.toPanel h)⟩

end Sys2Proof.Machine
end

section
/-! PROOFS. The trip requests and the window's selection. Settles O45, O46, O54. -/

namespace Sys2Proof.Machine

open Sys2Proof

/-! ### Who may change a record (R47, R54) -/

theorem mayChange_of_owner {p : Panel} {l : Link} {i : TripId} (h : l = .service ∨ Owns p l i) :
    mayChange p l i = true := (mayChange_iff p l i).mpr h

theorem mayChange_of_other {p : Panel} {l : Link} {i : TripId} (hl : l ≠ .service) (h : ¬Owns p l i) :
    mayChange p l i = false := by
  rw [Bool.eq_false_iff, Ne, mayChange_iff]
  exact fun hor => hor.elim hl h

theorem takeTripReset_of_index {i : TripId} {index : Byte} (hi : index.toNat = i.idx) (l : Link) (p : Panel) :
    takeTripReset l index p = judged [(mayChange p l i, .notOwner)] (fun p => accept (resetTrip i l p)) p := by
  rw [takeTripReset, hi, TripId.ofIdx_idx]

theorem takeTripReset_of_large {index : Byte} (h : 4 ≤ index.toNat) (l : Link) (p : Panel) :
    takeTripReset l index p = refuse .badValue p := by
  rw [takeTripReset, TripId.ofIdx_of_le h]

theorem takeTripState_of_index {i : TripId} {index : Byte} (hi : index.toNat = i.idx) (l : Link) (held : Bool)
    (p : Panel) : takeTripState l index held p =
      judged [(mayChange p l i, .notOwner), (i != .tank, .badValue)] (fun p => accept (setHeld i held l p)) p := by
  rw [takeTripState, hi, TripId.ofIdx_idx]

theorem takeTripState_of_large {index : Byte} (h : 4 ≤ index.toNat) (l : Link) (held : Bool) (p : Panel) :
    takeTripState l index held p = refuse .badValue p := by
  rw [takeTripState, TripId.ofIdx_of_le h]

/-- R48: a reset's record, and JOURNEY's destination with it. -/
theorem Trc.resetTrip_eq (i : TripId) (t : Trc) : t.resetTrip i = { t with
    trips := t.trips.set i { t.trips.get i with counts := ⟨0, 0, 0⟩, previous := some (t.trips.get i).counts }
    destinationKm := if i = .journey then none else t.destinationKm
    arrivalArmed := if i = .journey then false else t.arrivalArmed } := by
  cases i <;> rfl

/-- Settles O45: by the index, and then by the owner. -/
theorem aTripReset : Obligations.ATripReset := by
  unfold Obligations.ATripReset
  intro s l i index hready
  refine ⟨fun hlarge => ?_, fun hindex => ⟨fun ⟨hl, hother⟩ => ?_, fun howner => ?_⟩⟩
  · exact exec_permitted (r := .tripReset index) hready rfl (takeTripReset_of_large hlarge l s.toPanel)
  · refine exec_permitted (r := .tripReset index) hready rfl (a := refuse .notOwner s.toPanel)
      ((takeTripReset_of_index hindex l s.toPanel).trans ?_)
    exact judged_cons_of_fails _ _ _ _ (mayChange_of_other hl hother)
  · refine ⟨_, exec_permitted (r := .tripReset index) hready rfl (a := accept (resetTrip i l s.toPanel))
      ((takeTripReset_of_index hindex l s.toPanel).trans ?_), ?_⟩
    · rw [judged_cons_of_holds _ _ _ _ (mayChange_of_owner howner), judged_nil]
    · show WarningsJudged _ (rangeInputsChanged (notifyOthers .trip l (s.toPanel.withTrc (s.trc.resetTrip i))))
      rw [Trc.resetTrip_eq]
      exact rangeInputsChanged_reach _

/-! ### Hold, resume and the destination -/

theorem takeTripState_of_owner {i : TripId} {index : Byte} {l : Link} {p : Panel} (hi : index.toNat = i.idx)
    (htank : i ≠ .tank) (h : l = .service ∨ Owns p l i) (held : Bool) :
    takeTripState l index held p = accept (setHeld i held l p) := by
  rw [takeTripState_of_index hi, judged_cons_of_holds _ _ _ _ (mayChange_of_owner h),
    judged_cons_of_holds _ _ _ _ (bne_iff_ne.mpr htank), judged_nil]

theorem takeTripState_of_other {i : TripId} {index : Byte} {l : Link} {p : Panel} (hi : index.toNat = i.idx)
    (hl : l ≠ .service) (h : ¬Owns p l i) (held : Bool) :
    takeTripState l index held p = refuse .notOwner p := by
  rw [takeTripState_of_index hi]
  exact judged_cons_of_fails _ _ _ _ (mayChange_of_other hl h)

theorem takeTripState_of_tank {index : Byte} {l : Link} {p : Panel}
    (h : index.toNat = 3 ∧ l = .service ∨ 4 ≤ index.toNat) (held : Bool) :
    takeTripState l index held p = refuse .badValue p := by
  rcases h with ⟨hi, rfl⟩ | hlarge
  · rw [takeTripState_of_index (i := .tank) hi, judged_cons_of_holds _ _ _ _ (mayChange_of_owner (.inl rfl))]
    exact judged_cons_of_fails _ _ _ _ rfl
  · exact takeTripState_of_large hlarge l held p

theorem takeDestination_of_owner {l : Link} {km : BitVec 16} {p : Panel} (h : l = .service ∨ Owns p l .journey) :
    takeDestination l km p =
      if 9999 < km.toNat then refuse .badValue p
      else accept (notifyOthers .trip l (p.withTrc { p.trc with
        destinationKm := if km.toNat = 0 then none else some km.toNat, arrivalArmed := decide (km.toNat ≠ 0) })) := by
  rw [takeDestination, judged_cons_of_holds _ _ _ _ (mayChange_of_owner h)]
  by_cases hlarge : 9999 < km.toNat
  · rw [if_pos hlarge]
    exact judged_cons_of_fails _ _ _ _ (decide_eq_false (Nat.not_le.mpr hlarge))
  · rw [if_neg hlarge, judged_cons_of_holds _ _ _ _ (decide_eq_true (Nat.le_of_not_lt hlarge)), judged_nil]

theorem takeDestination_of_other {l : Link} {km : BitVec 16} {p : Panel} (hl : l ≠ .service) (h : ¬Owns p l .journey) :
    takeDestination l km p = refuse .notOwner p :=
  judged_cons_of_fails _ _ _ _ (mayChange_of_other hl h)

/-- Settles O46: by the owner, the index and the value. -/
theorem tripsAreHeldAndDirected : Obligations.TripsAreHeldAndDirected := by
  unfold Obligations.TripsAreHeldAndDirected
  intro s l hready
  have hstate : ∀ (index : Byte) (held : Bool) (a : Answer), takeTripState l index held s.toPanel = a →
      exec (if held then .tripHold l index else .tripResume l index) s =
        .next (s.answered l a.status a.data a.panel) := by
    intro index held a ha
    cases held
    · exact exec_permitted (r := .tripResume index) hready rfl ha
    · exact exec_permitted (r := .tripHold index) hready rfl ha
  refine ⟨fun i index hi htank howner held => ?_, fun i index hi hl hother => ⟨?_, ?_⟩, fun index h => ⟨?_, ?_⟩,
    fun km howner => ?_, fun km hl hother => ?_⟩
  · exact hstate index held _ (takeTripState_of_owner hi htank howner held)
  · exact hstate index true _ (takeTripState_of_other hi hl hother true)
  · exact hstate index false _ (takeTripState_of_other hi hl hother false)
  · exact hstate index true _ (takeTripState_of_tank h true)
  · exact hstate index false _ (takeTripState_of_tank h false)
  · have h := exec_permitted (r := .tripSetDestination km) hready rfl (takeDestination_of_owner (km := km) howner)
    refine Eq.trans h ?_
    split <;> rfl
  · exact exec_permitted (r := .tripSetDestination km) hready rfl (takeDestination_of_other hl hother)

/-! ### The window -/

theorem takeWindowSelect_of_codes {region index mode : Byte} {r : Region} {m : WindowMode}
    (hr : regionOf region.toNat = some r) (hm : windowModeOf mode.toNat = some m) (p : Panel) :
    takeWindowSelect region index mode p =
      if index.toNat < r.size then
        accept (p.withNvs { p.nvs with window := some ⟨r, index.toNat, m, p.nvs.unlockLatch⟩, unlockLatch := false })
      else refuse .badValue p := by
  rw [takeWindowSelect, hr, hm]
  dsimp only
  split
  case isTrue h => rw [judged_cons_of_holds _ _ _ _ (decide_eq_true h), judged_nil]
  case isFalse h => exact judged_cons_of_fails _ _ _ _ (decide_eq_false h)

theorem takeWindowRead_of_none {p : Panel} (h : p.nvs.window = none) : takeWindowRead p = refuse .badValue p := by
  rw [takeWindowRead, h]

theorem windowCell_eq (n : Nvs) (w : Window) :
    windowCell n w = if w.region = .unused then 0 else n.readCell (w.region.first + w.index) := by
  unfold windowCell
  cases w.region <;> rfl

theorem takeWindowRead_of_some {p : Panel} {w : Window} (h : p.nvs.window = some w) : takeWindowRead p =
    acceptData (char2 (if w.region = .unused then 0 else p.nvs.readCell (w.region.first + w.index)).toNat)
      (p.withNvs { p.nvs with window :=
        (if w.mode ≠ .stepBoth then some w
        else if w.index + 1 < w.region.size then some { w with index := w.index + 1 }
        else some { w with index := 0, writeEnabled := false }) }) := by
  rw [takeWindowRead, h]
  dsimp only
  rw [windowCell_eq, ite_not, Window.step, apply_ite some, apply_ite some]

/-- Settles O54. -/
theorem theStoreWindow : Obligations.TheStoreWindow := by
  unfold Obligations.TheStoreWindow
  intro s hready
  refine ⟨exec_permitted (r := .storeOpen) hready rfl rfl, fun region index mode r m hr hm => ?_, fun hnone => ?_,
    fun w hw => ?_⟩
  · refine Eq.trans (exec_permitted (r := .windowSelect region index mode) hready rfl
      (takeWindowSelect_of_codes (index := index) hr hm s.toPanel)) ?_
    split <;> rfl
  · exact exec_permitted (r := .windowRead) hready rfl (takeWindowRead_of_none hnone)
  · exact exec_permitted (r := .windowRead) hready rfl (takeWindowRead_of_some hw)

end Sys2Proof.Machine
end

section
/-! PROOFS. The requests about warnings. Settles O47, O48, O49. -/

namespace Sys2Proof.Machine

open Sys2Proof

/-! ### An entry after a removal is judged (R103) -/

theorem Wrc.present_eq_isSome (w : Wrc) (k : WarningKind) : w.present k = (w.entry k).isSome := by
  rw [Bool.eq_iff_iff, Wrc.present, Wrc.entry, List.find?_isSome, List.any_eq_true]

/-- What the removal's judgement leaves of an entry. -/
def WarningEntry.remaining (e : WarningEntry) : Option WarningEntry := if e.finished then none else some e

theorem judgeRemoval_entry (k j : WarningKind) (p : Panel) : (judgeRemoval k p).wrc.entry j =
    if j = k then (p.wrc.entry k).bind WarningEntry.remaining else p.wrc.entry j := by
  unfold judgeRemoval
  cases he : p.wrc.entry k with
  | none =>
    dsimp only
    split
    case isTrue h => rw [h, he]; rfl
    case isFalse => rfl
  | some e =>
    simp only [Option.bind_some, WarningEntry.remaining]
    by_cases hfin : e.finished = true
    · rw [if_pos hfin, if_pos hfin]
      exact Wrc.entry_dropEntry p.wrc j k
    · rw [if_neg hfin, if_neg hfin]
      split
      case isTrue h => rw [h, he]
      case isFalse => rfl

/-! ### Acknowledgement (R106) -/

/-- R106: an entry acknowledged at these sounders. -/
theorem WarningEntry.ack_eq {e : WarningEntry} {k : WarningKind} (hk : e.kind = k) (f r : Bool) :
    e.ack ⟨f, r⟩ = { e with
      pending := ⟨e.pending.front && !f, e.pending.rear && !r⟩
      acked := ⟨e.acked.front || f, e.acked.rear || r⟩
      resound := if f then (if isContinuous k then (resoundInterval k).or e.resound else none) else e.resound } := by
  subst hk
  unfold WarningEntry.ack
  cases hi : resoundInterval e.kind <;> rfl

theorem ackSounders_eq (l : Link) (k : WarningKind) :
    ackSounders l k = ⟨(kindSounders k).front && l != .rear, (kindSounders k).rear && l != .front⟩ := by
  cases l
  · simp [ackSounders]
  · simp [ackSounders]
  · show kindSounders k = ⟨(kindSounders k).front && true, (kindSounders k).rear && true⟩
    rw [Bool.and_true, Bool.and_true]

theorem acknowledge_entry {p : Panel} {k : WarningKind} {e : WarningEntry} (he : p.wrc.entry k = some e) (l : Link) :
    (acknowledge l k e p).wrc.entry k = (e.ack (ackSounders l k)).remaining := by
  have hmod : (p.wrc.modifyEntry k (WarningEntry.ack (ackSounders l k))).entry k =
      some (e.ack (ackSounders l k)) := by
    rw [Wrc.entry_modifyEntry _ _ _ (WarningEntry.ack (ackSounders l k)) (fun _ => rfl), if_pos rfl, he]
    rfl
  unfold acknowledge
  dsimp only
  rw [settleWarnings_entry, judgeRemoval_entry, if_pos rfl]
  have hwrc : ∀ q : Panel, (if ackChanges (ackSounders l k) e then notifyOthers .warnings l q else q).wrc = q.wrc := by
    intro q
    split <;> rfl
  rw [hwrc, Panel.withWrc_wrc, hmod]
  rfl

theorem kindOf_number (k : WarningKind) : kindOf (kindNumber k) = some k := by cases k <;> rfl

theorem takeWarningAck_of_none {kind : Byte} {k : WarningKind} (hkind : kind.toNat = kindNumber k) (l : Link)
    {p : Panel} (h : p.wrc.entry k = none) : takeWarningAck l kind p = refuse .notActive p := by
  rw [takeWarningAck, hkind, kindOf_number]
  dsimp only
  rw [h]

theorem takeWarningAck_of_entry {kind : Byte} {k : WarningKind} (hkind : kind.toNat = kindNumber k) (l : Link)
    {p : Panel} {e : WarningEntry} (h : p.wrc.entry k = some e) : takeWarningAck l kind p =
      judged [((ackSounders l k).front || (ackSounders l k).rear, .notActive), (isAckable k, .notPermitted)]
        (fun p => accept (acknowledge l k e p)) p := by
  rw [takeWarningAck, hkind, kindOf_number]
  dsimp only
  rw [h]

theorem notifyOthers_noticed {k : NoticeKind} {l m : Link} (hm : m ≠ l) (p : Panel) :
    Noticed k m (notifyOthers k l p) := by
  have hport : (notifyOthers k l p).lnk.ports.get m = (p.lnk.ports.get m).notify k := by
    exact (PerLink.get_set_ne _ _ hm).trans (PerLink.get_map _ _ _)
  rw [Noticed, hport, LinkPort.notify, BitVec.and_comm, BitVec.and_or_distrib_left, BitVec.and_self]
  ext i hi
  simp only [BitVec.getElem_or, BitVec.getElem_and]
  cases k.bit[i] <;> simp

/-- No notice is taken back. -/
theorem WarningsOnly.noticed {k : NoticeKind} {l : Link} {p q : Panel} (h : WarningsOnly p q) (hp : Noticed k l p) :
    Noticed k l q := by
  rcases h.2 with hlnk | hlnk
  · rw [Noticed, hlnk]
    exact hp
  · rw [Noticed, hlnk]
    exact hp.notifyAll .warnings

theorem Reaches.eq_warnings {p q : Panel} (h : Reaches [.wrc, .lnk] p q) : q = { p with wrc := q.wrc, lnk := q.lnk } :=
  h.eq_of_reaches (r := { p with wrc := q.wrc, lnk := q.lnk })
    ⟨rfl, fun b hb => by cases b <;> simp_all [Block.Stands]⟩ (by
      simp only [List.mem_cons, List.not_mem_nil, or_false, forall_eq_or_imp, forall_eq]
      exact ⟨rfl, rfl⟩)

theorem sounders_change : ∀ f r pf pr af ar : Bool,
    ((⟨pf && !f, pr && !r⟩ : PerSounder Bool) != ⟨pf, pr⟩ || (⟨af || f, ar || r⟩ : PerSounder Bool) != ⟨af, ar⟩) =
      ((pf && f) || (pr && r) || (f && !af) || (r && !ar)) := by
  decide

theorem ackChanges_eq {e : WarningEntry} {k : WarningKind} (hk : e.kind = k) (f r : Bool) : ackChanges ⟨f, r⟩ e =
    ((e.pending.front && f) || (e.pending.rear && r) || (f && !e.acked.front) || (r && !e.acked.rear)) := by
  rw [ackChanges, WarningEntry.ack_eq hk]
  exact sounders_change f r e.pending.front e.pending.rear e.acked.front e.acked.rear

theorem acknowledge_noticed {l m : Link} {k : WarningKind} {e : WarningEntry} {p : Panel} (hm : m ≠ l)
    (h : ackChanges (ackSounders l k) e = true) : Noticed .warnings m (acknowledge l k e p) := by
  unfold acknowledge
  dsimp only
  rw [if_pos h]
  exact ((judgeRemoval_only k _).trans (settleWarnings_only _)).noticed (notifyOthers_noticed hm _)

/-- Settles O47: by the entry, the sounders of the link, and the kind. -/
theorem aWarningIsAcknowledged : Obligations.AWarningIsAcknowledged := by
  unfold Obligations.AWarningIsAcknowledged
  intro s l k kind hready hkind
  refine ⟨fun hnone => ?_, ?_⟩
  · exact exec_permitted (r := .warningAck kind) hready rfl (takeWarningAck_of_none hkind l hnone)
  rintro e f r he hf hr
  have hsounders : ackSounders l k = ⟨f, r⟩ := by rw [ackSounders_eq, hf, hr]
  have hcarry := takeWarningAck_of_entry hkind l he
  rw [hsounders] at hcarry
  refine ⟨fun hf0 hr0 => ?_, fun hany hack => ?_, fun hany hack => ?_⟩
  · refine exec_permitted (r := .warningAck kind) hready rfl (a := refuse .notActive s.toPanel) (hcarry.trans ?_)
    exact judged_cons_of_fails _ _ _ _ (by simp [hf0, hr0])
  · refine exec_permitted (r := .warningAck kind) hready rfl (a := refuse .notPermitted s.toPanel) (hcarry.trans ?_)
    rw [judged_cons_of_holds _ _ _ _ (by simpa using hany)]
    exact judged_cons_of_fails _ _ _ _ hack
  · refine ⟨acknowledge l k e s.toPanel, exec_permitted (r := .warningAck kind) hready rfl
      (a := accept (acknowledge l k e s.toPanel)) (hcarry.trans ?_), ?_, ?_, ?_⟩
    · rw [judged_cons_of_holds _ _ _ _ (by simpa using hany), judged_cons_of_holds _ _ _ _ hack, judged_nil]
    · exact (acknowledge_reaches l k e s.toPanel).eq_warnings
    · intro m hm hchange
      exact acknowledge_noticed hm (by rw [hsounders, ackChanges_eq (Wrc.kind_of_entry he), hchange])
    · rintro e' rfl
      rw [acknowledge_entry he, hsounders, WarningEntry.ack_eq (Wrc.kind_of_entry he)]
      rfl

/-! ### Calls (R115) -/

/-- An event's kind is raised at the sounders it sounds at, unless rear quiet withholds it there. -/
structure EventRaised (k : WarningKind) (p q : Panel) : Prop where
  noticed : ∀ l, Noticed .warnings l q
  fresh : p.wrc.entry k = none →
    q.wrc.entry k = ({ freshEntry p k with conditionPresent := false } : WarningEntry).remaining
  again : ∀ e, p.wrc.entry k = some e → q.wrc.entry k = some (e.raiseAgain p.wrc)

theorem raiseEvent_disabled {k : WarningKind} {p : Panel} (h : kindEnabled p.nvs.calibration.warningEnable k = false) :
    raiseEvent k p = p := by
  rw [raiseEvent, h, Bool.false_and, Bool.not_false, if_pos rfl]

theorem raiseEvent_raised {k : WarningKind} {p : Panel} (hon : kindEnabled p.nvs.calibration.warningEnable k = true)
    (hmode : kindMode k p.pmc.mode = true) : EventRaised k p (raiseEvent k p) := by
  have hactive : raiseEvent k p = if p.wrc.present k then
      settleWarnings (notifyAll .warnings (p.withWrc (p.wrc.modifyEntry k (WarningEntry.raiseAgain p.wrc))))
    else settleWarnings (judgeRemoval k (notifyAll .warnings (p.withWrc
      { p.wrc with entries := insertEntry { freshEntry p k with conditionPresent := false } p.wrc.entries }))) := by
    rw [raiseEvent, hon, hmode, Bool.and_self, Bool.not_true, if_neg Bool.false_ne_true]
  rw [hactive, Wrc.present_eq_isSome]
  cases he : p.wrc.entry k with
  | none =>
    refine ⟨fun l => ?_, fun _ => ?_, fun e h => absurd (he.symm.trans h) (by simp)⟩
    · exact ((judgeRemoval_only k _).trans (settleWarnings_only _)).noticed (notifyAll_noticed .warnings l _)
    · rw [Option.isSome_none, if_neg Bool.false_ne_true, settleWarnings_entry, judgeRemoval_entry, if_pos rfl,
        notifyAll_wrc, Panel.withWrc_wrc, Wrc.entry, find_insertEntry,
        if_pos (show k = (freshEntry p k).kind from rfl)]
      rfl
  | some e =>
    refine ⟨fun l => ?_, fun h => absurd (he.symm.trans h) (by simp), fun e' h => ?_⟩
    · exact (settleWarnings_only _).noticed (notifyAll_noticed .warnings l _)
    · rw [Option.isSome_some, if_pos rfl, settleWarnings_entry, notifyAll_wrc, Panel.withWrc_wrc,
        Wrc.entry_modifyEntry _ _ _ (WarningEntry.raiseAgain p.wrc) (fun _ => rfl), if_pos rfl, h]
      rfl

theorem kindMode_rearCall {m : Mode} (h : m ≠ .startup) : kindMode .rearCall m = true := by
  cases m
  · exact absurd rfl h
  all_goals rfl

theorem freshPending_rearCall (w : Wrc) : w.freshPending .rearCall = ⟨true, false⟩ := by
  unfold Wrc.freshPending
  simp [PerSounder.of, Wrc.withholds, kindSounders, PerSounder.get]

theorem freshPending_arrival (w : Wrc) : w.freshPending .arrival = ⟨false, !w.rearQuiet⟩ := by
  unfold Wrc.freshPending
  cases h : w.rearQuiet <;> simp [PerSounder.of, Wrc.withholds, h, kindSounders, PerSounder.get, kindNumber]

theorem takeCall_rear_eq (p : Panel) : takeCall .rear p =
    judged [(p.pmc.mode != .startup, .wrongMode)] (fun p => accept (raiseEvent .rearCall p)) p := rfl

theorem takeCall_front_eq (p : Panel) : takeCall .front p =
    judged [(p.pmc.mode == .run, .wrongMode)] (fun p => accept (raiseEvent .arrival p)) p := rfl

theorem takeCall_rear_of_startup {p : Panel} (h : p.pmc.mode = .startup) : takeCall .rear p = refuse .wrongMode p := by
  rw [takeCall_rear_eq, judged_cons_of_fails _ _ _ _ (by rw [h]; rfl)]

theorem takeCall_rear {p : Panel} (h : p.pmc.mode ≠ .startup) : takeCall .rear p = accept (raiseEvent .rearCall p) := by
  rw [takeCall_rear_eq, judged_cons_of_holds _ _ _ _ (bne_iff_ne.mpr h), judged_nil]

theorem takeCall_front_outside_run {p : Panel} (h : p.pmc.mode ≠ .run) :
    takeCall .front p = refuse .wrongMode p := by
  rw [takeCall_front_eq, judged_cons_of_fails _ _ _ _ (beq_eq_false_iff_ne.mpr h)]

theorem takeCall_front {p : Panel} (h : p.pmc.mode = .run) : takeCall .front p = accept (raiseEvent .arrival p) := by
  rw [takeCall_front_eq, judged_cons_of_holds _ _ _ _ (beq_iff_eq.mpr h), judged_nil]

/-- Settles O48: by the link, the mode, and the entry that stands (`EventRaised`). -/
theorem aCallRaisesItsWarning : Obligations.ACallRaisesItsWarning := by
  unfold Obligations.ACallRaisesItsWarning
  intro s
  refine ⟨fun hready hmode => ?_, fun hready hmode => ?_, fun hready hmode => ?_, fun hready hmode => ?_⟩
  · exact exec_permitted (r := .call) hready rfl (takeCall_rear_of_startup hmode)
  · exact exec_permitted (r := .call) hready rfl (takeCall_front_outside_run hmode)
  · refine ⟨raiseEvent .rearCall s.toPanel, exec_permitted (r := .call) hready rfl (takeCall_rear hmode),
      raiseEvent_only _ _, fun hoff => raiseEvent_disabled hoff, fun hon => ?_⟩
    have h := raiseEvent_raised (k := .rearCall) (p := s.toPanel) hon (kindMode_rearCall hmode)
    refine ⟨h.noticed, fun hnone => ?_, fun e he => ?_⟩
    · rw [h.fresh hnone, freshEntry, freshPending_rearCall]
      rfl
    · rw [h.again e he, WarningEntry.raiseAgain, Wrc.kind_of_entry he, freshPending_rearCall]
      simp
  · refine ⟨raiseEvent .arrival s.toPanel, exec_permitted (r := .call) hready rfl (takeCall_front hmode),
      raiseEvent_only _ _, fun hoff => raiseEvent_disabled hoff, fun hon => ?_⟩
    have h := raiseEvent_raised (k := .arrival) (p := s.toPanel) hon (by rw [hmode]; rfl)
    refine ⟨h.noticed, fun hnone => ?_, fun e he => ?_⟩
    · rw [h.fresh hnone, freshEntry, freshPending_arrival]
      cases hquiet : s.wrc.rearQuiet
      · rfl
      · rfl
    · have hkind := Wrc.kind_of_entry he
      rw [h.again e he, WarningEntry.raiseAgain, hkind, freshPending_arrival]
      cases hquiet : s.wrc.rearQuiet
      · simp
      · simp [← hkind]

/-! ### The overspeed setpoint (R114) -/

theorem takeOverspeedSet_of_out {v : BitVec 16} {p : Panel} (h0 : v.toNat ≠ 0) (h : v.toNat < 300 ∨ 2500 < v.toNat) :
    takeOverspeedSet v p = refuse .badValue p := by
  refine judged_cons_of_fails _ _ _ _ ?_
  rw [Bool.or_eq_false_iff, beq_eq_false_iff_ne, within, Bool.and_eq_false_iff, decide_eq_false_iff_not,
    decide_eq_false_iff_not]
  omega

theorem takeOverspeedSet_of_in {v : BitVec 16} {p : Panel} (h : v.toNat = 0 ∨ 300 ≤ v.toNat ∧ v.toNat ≤ 2500) :
    takeOverspeedSet v p = accept (judgeWarnings (p.withWrc { p.wrc with overspeedSetpoint := v.toNat })) := by
  have hin : (v.toNat == 0 || within 300 2500 v.toNat) = true := by
    rw [Bool.or_eq_true, beq_iff_eq, within, Bool.and_eq_true, decide_eq_true_eq, decide_eq_true_eq]
    exact h
  rw [takeOverspeedSet, judged_cons_of_holds _ _ _ _ hin, judged_nil]

/-- R104: the level of OVERSPEED, judged in RUN at the setpoint that stands. -/
theorem overspeed_judged {p q : Panel} (h : WarningsJudged p q) (hmode : p.pmc.mode = .run)
    (hon : p.nvs.calibration.warningEnable.getLsbD 3 = true) :
    (p.wrc.levels.overspeed = false → (q.wrc.levels.overspeed = true ↔
      p.wrc.overspeedSetpoint ≠ 0 ∧ p.wrc.overspeedSetpoint ≤ p.pcu.speedV)) ∧
    (p.wrc.levels.overspeed = true → (q.wrc.levels.overspeed = true ↔
      p.wrc.overspeedSetpoint ≠ 0 ∧ p.wrc.overspeedSetpoint ≤ p.pcu.speedV + 30)) := by
  obtain ⟨honly, hjudged, -⟩ := h
  have hset : q.wrc.overspeedSetpoint = p.wrc.overspeedSetpoint := by rw [hjudged.rest]
  have hspeed : q.pcu.speedV = p.pcu.speedV := by rw [honly.reaches.pcu]
  have hactive : kindActive q .overspeed = true := by
    rw [kindActive, honly.reaches.nvs, honly.reaches.pmc, hmode]
    exact Bool.and_eq_true_iff.mpr ⟨hon, rfl⟩
  have hlevel : q.wrc.levels.overspeed = true ↔ kindActive q .overspeed = true ∧
      (p.wrc.levels.overspeed = false ∧
        (q.wrc.overspeedSetpoint ≠ 0 ∧ q.wrc.overspeedSetpoint ≤ q.pcu.speedV) ∨
      p.wrc.levels.overspeed = true ∧
        ¬(q.wrc.overspeedSetpoint = 0 ∨ q.pcu.speedV + 30 < q.wrc.overspeedSetpoint)) :=
    hjudged.level .overspeed rfl
  rw [hset, hspeed] at hlevel
  refine ⟨fun hwas => ?_, fun hwas => ?_⟩
  · simpa [hactive, hwas] using hlevel
  · simpa [hactive, hwas] using hlevel

/-! ### Rear quiet (R116) -/

/-- An entry of kinds 5 to 15 no longer waits at sounder R. -/
def WarningEntry.quieted (e : WarningEntry) : WarningEntry :=
  if 5 ≤ kindNumber e.kind then { e with pending := { e.pending with rear := false } } else e

theorem WarningEntry.quieted_kind (e : WarningEntry) : e.quieted.kind = e.kind := by
  unfold WarningEntry.quieted
  split <;> rfl

theorem find_quieted (k : WarningKind) (es : List WarningEntry) :
    (es.map WarningEntry.quieted).find? (fun e => e.kind == k) =
      (es.find? (fun e => e.kind == k)).map WarningEntry.quieted := by
  rw [List.find?_map]
  congr 2
  funext e
  rw [Function.comp_apply, WarningEntry.quieted_kind]

/-- The kinds judged for removal at rear quiet. -/
def quietKinds : List WarningKind := allKinds.filter fun k => decide (5 ≤ kindNumber k)

theorem mem_quietKinds (k : WarningKind) : k ∈ quietKinds ↔ 5 ≤ kindNumber k := by
  rw [quietKinds, List.mem_filter, decide_eq_true_eq]
  exact and_iff_right (mem_allKinds k)

/-- The part with rear quiet set, before any removal is judged. -/
def quietSet (p : Panel) : Panel :=
  p.withWrc { p.wrc with rearQuiet := true, entries := p.wrc.entries.map WarningEntry.quieted }

theorem makeRearQuiet_eq (p : Panel) :
    makeRearQuiet p = settleWarnings (quietKinds.foldl (fun q k => judgeRemoval k q) (quietSet p)) := rfl

theorem settleWarnings_entries (p : Panel) : (settleWarnings p).wrc.entries = p.wrc.entries := rfl

theorem settleWarnings_rearQuiet (p : Panel) : (settleWarnings p).wrc.rearQuiet = p.wrc.rearQuiet := rfl

theorem remaining_remaining (oe : Option WarningEntry) :
    (oe.bind WarningEntry.remaining).bind WarningEntry.remaining = oe.bind WarningEntry.remaining := by
  cases oe with
  | none => rfl
  | some e => by_cases h : e.finished = true <;> simp [WarningEntry.remaining, h]

/-- What the removal's judgement of several kinds leaves. -/
theorem foldl_judgeRemoval_entry (j : WarningKind) : ∀ (ks : List WarningKind) (p : Panel),
    (ks.foldl (fun q k => judgeRemoval k q) p).wrc.entry j =
      if j ∈ ks then (p.wrc.entry j).bind WarningEntry.remaining else p.wrc.entry j
  | [], p => by simp
  | k :: ks, p => by
    rw [List.foldl_cons, foldl_judgeRemoval_entry j ks, judgeRemoval_entry]
    by_cases hjk : j = k
    · subst hjk
      rw [if_pos rfl, remaining_remaining, if_pos List.mem_cons_self, ite_self]
    · rw [if_neg hjk]
      simp only [List.mem_cons, hjk, false_or]

theorem judgeRemoval_keeps_quiet (k : WarningKind) (p : Panel) :
    (judgeRemoval k p).wrc.rearQuiet = p.wrc.rearQuiet ∧
      ∀ e ∈ (judgeRemoval k p).wrc.entries, e ∈ p.wrc.entries := by
  unfold judgeRemoval
  split
  · split
    · exact ⟨rfl, fun e he => (List.mem_filter.mp he).1⟩
    · exact ⟨rfl, fun e he => he⟩
  · exact ⟨rfl, fun e he => he⟩

theorem foldl_judgeRemoval_keeps_quiet : ∀ (ks : List WarningKind) (p : Panel),
    (ks.foldl (fun q k => judgeRemoval k q) p).wrc.rearQuiet = p.wrc.rearQuiet ∧
      ∀ e ∈ (ks.foldl (fun q k => judgeRemoval k q) p).wrc.entries, e ∈ p.wrc.entries
  | [], p => ⟨rfl, fun e he => he⟩
  | k :: ks, p => by
    obtain ⟨hquiet, hmem⟩ := foldl_judgeRemoval_keeps_quiet ks (judgeRemoval k p)
    obtain ⟨hquiet', hmem'⟩ := judgeRemoval_keeps_quiet k p
    exact ⟨hquiet.trans hquiet', fun e he => hmem' e (hmem e he)⟩

theorem makeRearQuiet_entry (p : Panel) (k : WarningKind) : (makeRearQuiet p).wrc.entry k =
    if 5 ≤ kindNumber k then ((p.wrc.entry k).map WarningEntry.quieted).bind WarningEntry.remaining
    else (p.wrc.entry k).map WarningEntry.quieted := by
  rw [makeRearQuiet_eq, settleWarnings_entry, foldl_judgeRemoval_entry]
  simp only [mem_quietKinds, quietSet, Panel.withWrc_wrc, Wrc.entry, find_quieted]

theorem makeRearQuiet_rearQuiet (p : Panel) : (makeRearQuiet p).wrc.rearQuiet = true := by
  rw [makeRearQuiet_eq, settleWarnings_rearQuiet, (foldl_judgeRemoval_keeps_quiet quietKinds (quietSet p)).1]
  rfl

theorem makeRearQuiet_pending (p : Panel) : ∀ e ∈ (makeRearQuiet p).wrc.entries, 5 ≤ kindNumber e.kind →
    e.pending.rear = false := by
  intro e he hk
  rw [makeRearQuiet_eq, settleWarnings_entries] at he
  have hmem := (foldl_judgeRemoval_keeps_quiet quietKinds (quietSet p)).2 e he
  obtain ⟨f, -, rfl⟩ := List.mem_map.mp hmem
  rw [WarningEntry.quieted_kind] at hk
  rw [WarningEntry.quieted, if_pos hk]

theorem takeRearQuietSet_of_large {v : Byte} {p : Panel} (h : 1 < v.toNat) :
    takeRearQuietSet v p = refuse .badValue p :=
  judged_cons_of_fails _ _ _ _ (decide_eq_false (Nat.not_le.mpr h))

theorem takeRearQuietSet_of_flag {v : Byte} {p : Panel} (h : v.toNat ≤ 1) : takeRearQuietSet v p =
    accept (if v.toNat = 1 then makeRearQuiet p else p.withWrc { p.wrc with rearQuiet := false }) := by
  rw [takeRearQuietSet, judged_cons_of_holds _ _ _ _ (decide_eq_true h), judged_nil]

/-- Settles O49: the setpoint judges OVERSPEED at once, and rear quiet takes sounder R from the entries. -/
theorem setpointAndRearQuietAreSet : Obligations.SetpointAndRearQuietAreSet := by
  unfold Obligations.SetpointAndRearQuietAreSet
  refine ⟨fun s v hready => ⟨fun h0 hout => ?_, fun hin => ?_⟩, fun s v hready => ⟨fun hlarge => ?_, fun h0 => ?_,
    fun h1 => ?_⟩⟩
  · exact exec_permitted (r := .overspeedSet v) hready rfl (takeOverspeedSet_of_out h0 hout)
  · have hjudged := judgeWarnings_judged (s.toPanel.withWrc { s.wrc with overspeedSetpoint := v.toNat })
    exact ⟨_, exec_permitted (r := .overspeedSet v) hready rfl (takeOverspeedSet_of_in hin), hjudged,
      fun hmode hon => overspeed_judged hjudged hmode hon⟩
  · exact exec_permitted (r := .rearQuietSet v) hready rfl (takeRearQuietSet_of_large hlarge)
  · refine exec_permitted (r := .rearQuietSet v) hready rfl
      (a := accept (s.toPanel.withWrc { s.wrc with rearQuiet := false }))
      ((takeRearQuietSet_of_flag (by omega)).trans ?_)
    rw [if_neg (by omega)]
  · refine ⟨makeRearQuiet s.toPanel, exec_permitted (r := .rearQuietSet v) hready rfl
      (a := accept (makeRearQuiet s.toPanel)) ((takeRearQuietSet_of_flag (by omega)).trans (by rw [if_pos h1])),
      makeRearQuiet_only _, makeRearQuiet_rearQuiet _, makeRearQuiet_pending _, fun k hk => ?_, ?_⟩
    · rw [makeRearQuiet_entry, if_neg (by omega)]
      cases he : s.wrc.entry k with
      | none => rfl
      | some e =>
        have hkind := Wrc.kind_of_entry he
        rw [Option.map_some, WarningEntry.quieted, hkind, if_neg (by omega)]
    · rintro k e hk he e' rfl
      have hkind := Wrc.kind_of_entry he
      rw [makeRearQuiet_entry, if_pos hk, he, Option.map_some, Option.bind_some, WarningEntry.quieted,
        if_pos (hkind ▸ hk)]
      rfl

end Sys2Proof.Machine
end

section
/-! PROOFS. The requests that start a check and write a service item. Settles O51, O52, O53. -/

namespace Sys2Proof.Machine

open Sys2Proof

/-! ### The start of a check (R140) -/

/-- R140: the check as it starts, its fault indication aside. -/
structure CheckStarted (source : CheckSource) (p q : Panel) : Prop where
  state : q.chk.state = .running
  source_eq : q.chk.source = source
  item : q.chk.currentItem = some (.lamp .oil)
  phase : q.chk.phase = .driven
  time : q.chk.driveTime = some p.pcu.timebase
  count : q.chk.faultCount = 0
  records : ∀ i, q.chk.item i = ⟨.notTested, none, .absent⟩
  lamp : (q.wrc.lamps.get .oil).output = true

theorem item_of_reset {c : Chk} (hl : c.lamps = Chk.resetLamps) (hc : c.coils = Chk.resetCoils) (i : CheckItem) :
    c.item i = ⟨.notTested, none, .absent⟩ := by
  cases i with
  | lamp l => rw [Chk.item, hl]; cases l <;> rfl
  | coil g k => rw [Chk.item, hc]; cases g <;> cases k <;> rfl

/-- The oil lamp's step, before the fault indication is judged. -/
def checkBegun (source : CheckSource) (p : Panel) : Panel := beginLamp .oil (p.withChk (p.chk.start source))

theorem startCheck_eq (source : CheckSource) (p : Panel) :
    startCheck source p = judgeFaultIndication (checkBegun source p) := rfl

theorem startCheck_started (source : CheckSource) (p : Panel) : CheckStarted source p (startCheck source p) := by
  have hjudged := judgeFaultIndication_reach (checkBegun source p)
  have hchk : (startCheck source p).chk = { (checkBegun source p).chk with
      faultIndication := (startCheck source p).chk.faultIndication } := by
    rw [startCheck_eq, hjudged.chk]
    unfold Panel.withFaults
    split <;> rfl
  have hitem : (startCheck source p).chk.currentItem = some (.lamp .oil) := by rw [hchk]; rfl
  have hphase : (startCheck source p).chk.phase = .driven := by rw [hchk]; rfl
  refine ⟨by rw [hchk]; rfl, by rw [hchk]; rfl, hitem, hphase, by rw [hchk]; rfl, by rw [hchk]; rfl,
    item_of_reset (by rw [hchk]; rfl) (by rw [hchk]; rfl), ?_⟩
  have htest : lampUnderTest (startCheck source p) .oil = true := by
    rw [lampUnderTest, hitem, hphase]
    rfl
  rw [startCheck_eq] at htest ⊢
  rw [hjudged.2.1.lamps .oil, htest, Bool.true_or]

theorem takeCheckStart_of_mode {l : Link} {p : Panel} (h : p.pmc.mode ≠ .run) :
    takeCheckStart l p = refuse .wrongMode p :=
  judged_cons_of_fails _ _ _ _ (beq_eq_false_iff_ne.mpr h)

theorem takeCheckStart_of_running {l : Link} {p : Panel} (h : p.pmc.mode = .run) (hrun : p.chk.state = .running) :
    takeCheckStart l p = refuse .busy p := by
  rw [takeCheckStart, judged_cons_of_holds _ _ _ _ (beq_iff_eq.mpr h)]
  exact judged_cons_of_fails _ _ _ _ (by rw [hrun]; rfl)

theorem takeCheckStart_of_idle {l : Link} {p : Panel} (h : p.pmc.mode = .run) (hidle : p.chk.state ≠ .running) :
    takeCheckStart l p = accept (notifyOthers .check l (startCheck (requestSource l) p)) := by
  rw [takeCheckStart, judged_cons_of_holds _ _ _ _ (beq_iff_eq.mpr h),
    judged_cons_of_holds _ _ _ _ (bne_iff_ne.mpr hidle), judged_nil]

theorem Reaches.eq_check_warnings {p q : Panel} (h : Reaches [.chk, .wrc, .lnk] p q) :
    q = { p with chk := q.chk, wrc := q.wrc, lnk := q.lnk } :=
  h.eq_of_reaches (r := { p with chk := q.chk, wrc := q.wrc, lnk := q.lnk })
    ⟨rfl, fun b hb => by cases b <;> simp_all [Block.Stands]⟩ (by
      simp only [List.mem_cons, List.not_mem_nil, or_false, forall_eq_or_imp, forall_eq]
      exact ⟨rfl, rfl, rfl⟩)

/-- Settles O53: by the mode and the check's state (`CheckStarted`). -/
theorem aCheckStarts : Obligations.ACheckStarts := by
  unfold Obligations.ACheckStarts
  intro s l hready hl
  have hpermitted : permitted l .checkStart = true := bne_iff_ne.mpr hl
  refine ⟨fun hmode => ?_, fun hmode hrun => ?_, fun hmode hidle => ?_⟩
  · exact exec_permitted (r := .checkStart) hready hpermitted (takeCheckStart_of_mode hmode)
  · exact exec_permitted (r := .checkStart) hready hpermitted (takeCheckStart_of_running hmode hrun)
  · have h := startCheck_started (requestSource l) s.toPanel
    refine ⟨_, exec_permitted (r := .checkStart) hready hpermitted (takeCheckStart_of_idle hmode hidle),
      (checkStart_reaches l _ s.toPanel).eq_check_warnings, h.state, h.source_eq.trans ?_, h.item, h.phase, h.time,
      h.count, h.records, h.lamp, fun m hm => notifyOthers_noticed hm _⟩
    cases l
    · rfl
    · exact absurd rfl hl
    · rfl

/-! ### A service item stored (R123 to R125) -/

/-- What the storing of an item brings. -/
structure ItemStored (i : SlotId) (it : ServiceItem) (l : Link) (p q : Panel) : Prop where
  stored : ∀ st, { q.svm.items.get i with state := st } = { it with state := st }
  others : ∀ k, k ≠ i → ∀ st, { q.svm.items.get k with state := st } = { p.svm.items.get k with state := st }
  graded : q.itemsGraded
  held : q.nvs.Holds (itemJobData i it)
  nvs : q.nvs = { p.nvs with queue := q.nvs.queue, inFlight := q.nvs.inFlight, cellTimer := q.nvs.cellTimer }
  noticed : ∀ m, m ≠ l → Noticed .service m q
  dfa : q.dfa = p.dfa
  trc : q.trc = p.trc
  pmc : q.pmc = p.pmc
  chk : q.chk = p.chk

theorem Noticed.evaluate {k : NoticeKind} {l : Link} {p : Panel} (h : Noticed k l p) : Noticed k l (evaluate p) := by
  obtain ⟨q, hq, hjudged⟩ := evaluate_reach p
  have hqn : Noticed k l q := by
    rcases hq with rfl | rfl | rfl
    · exact h
    · exact h
    · exact Noticed.notifyAll .service h
  rcases hjudged with rfl | hjudged
  · exact hqn
  · exact hjudged.1.noticed hqn

theorem evaluatedItems_withState (p : Panel) (i : SlotId) (st : DueState) :
    { (evaluatedItems p).get i with state := st } = { p.svm.items.get i with state := st } := by
  rw [evaluatedItems_get]

theorem storeItem_stored {i : SlotId} {it : ServiceItem} {origin : Origin} {p : Panel} (l : Link)
    (hdone : p.nvs.recoveryDone = true) (hlow : p.pmc.supplyLow = false)
    (h : ∀ j ∈ p.nvs.queue, j.data.covers (itemJobData i it) = false) :
    ItemStored i it l p (storeItem i it origin l p) := by
  obtain ⟨q, hq⟩ : ∃ q, q = queueJob ⟨itemJobData i it, .normal, origin, none⟩
    (p.withSvm { p.svm with items := p.svm.items.set i it }) := ⟨_, rfl⟩
  have honly : QueueOnly (p.withSvm { p.svm with items := p.svm.items.set i it }) q := hq ▸ queueJob_only _ _
  have hstore : storeItem i it origin l p = evaluate (notifyOthers .service l q) := by rw [hq]; rfl
  have hsvm : q.svm = { p.svm with items := p.svm.items.set i it } := honly.reaches.svm
  have hnvs := honly.nvs
  have hqdone : (notifyOthers .service l q).nvs.recoveryDone = true := by
    rw [notifyOthers_nvs, hnvs]
    exact hdone
  have hreach := evaluate_reaches (notifyOthers .service l q)
  rw [hstore]
  refine ⟨fun st => ?_, fun k hk st => ?_, evaluate_itemsGraded hqdone, ?_, ?_,
    fun m hm => (notifyOthers_noticed hm q).evaluate, hreach.dfa.trans honly.reaches.dfa,
    hreach.trc.trans honly.reaches.trc, hreach.pmc.trans honly.reaches.pmc, hreach.chk.trans honly.reaches.chk⟩
  · rw [evaluate_svm hqdone, evaluatedItems_withState, notifyOthers_svm, hsvm, PerSlot.get_set_self]
  · rw [evaluate_svm hqdone, evaluatedItems_withState, notifyOthers_svm, hsvm, PerSlot.get_set_ne _ _ hk]
  · rw [hreach.nvs, notifyOthers_nvs, hq]
    exact queueJob_holds (j := ⟨itemJobData i it, .normal, origin, none⟩) hlow h
  · rw [hreach.nvs, notifyOthers_nvs]
    exact hnvs

theorem SlotId.ofIdx_idx (i : SlotId) : SlotId.ofIdx i.idx = some i := by cases i <;> rfl

theorem storeAccepts_iff (jobs : Nat) (p : Panel) :
    storeAccepts jobs p = true ↔ p.nvs.jobCount + jobs ≤ 6 ∧ p.pmc.supplyLow = false := by
  rw [storeAccepts, Bool.and_eq_true, decide_eq_true_eq, Bool.not_eq_true', Nvs.freeSlots]
  exact and_congr_left fun _ => by omega

theorem storeAccepts_of_room {p : Panel} (h : p.nvs.jobCount ≤ 5) (hlow : p.pmc.supplyLow = false) :
    storeAccepts 1 p = true := (storeAccepts_iff 1 p).mpr ⟨by omega, hlow⟩

/-! ### SERVICE_RESET -/

theorem takeServiceReset_service {i : SlotId} {slot : Byte} (hi : slot.toNat = i.idx) (p : Panel) :
    takeServiceReset .service slot p = judged [(p.nvs.unlockLatch, .locked), (storeAccepts 1 p, .busy)]
      (fun p => accept (storeItem i (resetItem p i) .service .service (consumeLatch p))) p := by
  rw [takeServiceReset, hi, SlotId.ofIdx_idx]

theorem takeServiceReset_front {i : SlotId} {slot : Byte} (hi : slot.toNat = i.idx) (p : Panel) :
    takeServiceReset .front slot p =
      judged [(p.pmc.mode == .run, .wrongMode), ((p.svm.items.get i).driverReset, .notPermitted),
          ((p.svm.items.get i).state.nearDue, .badValue), (p.pcu.stationary, .moving), (storeAccepts 1 p, .busy)]
        (fun p => accept (storeItem i (resetItem p i) .front .front p)) p := by
  rw [takeServiceReset, hi, SlotId.ofIdx_idx]

theorem takeServiceReset_of_locked {i : SlotId} {slot : Byte} {p : Panel} (hi : slot.toNat = i.idx)
    (h : p.nvs.unlockLatch = false) : takeServiceReset .service slot p = refuse .locked p := by
  rw [takeServiceReset_service hi, judged_cons_of_fails _ _ _ _ h]

theorem takeServiceReset_of_mode {i : SlotId} {slot : Byte} {p : Panel} (hi : slot.toNat = i.idx)
    (h : p.pmc.mode ≠ .run) : takeServiceReset .front slot p = refuse .wrongMode p := by
  rw [takeServiceReset_front hi, judged_cons_of_fails _ _ _ _ (beq_eq_false_iff_ne.mpr h)]

theorem takeServiceReset_of_unlocked {i : SlotId} {slot : Byte} {p : Panel} (hi : slot.toNat = i.idx)
    (h : p.nvs.unlockLatch = true) (hroom : storeAccepts 1 p = true) : takeServiceReset .service slot p =
      accept (storeItem i (resetItem p i) .service .service (consumeLatch p)) := by
  rw [takeServiceReset_service hi, judged_cons_of_holds _ _ _ _ h, judged_cons_of_holds _ _ _ _ hroom, judged_nil]

theorem takeServiceReset_of_driver {i : SlotId} {slot : Byte} {p : Panel} (hi : slot.toNat = i.idx)
    (h : p.pmc.mode = .run) (hdriver : (p.svm.items.get i).driverReset = true)
    (hdue : (p.svm.items.get i).state.nearDue = true) (hstill : p.pcu.stationary = true)
    (hroom : storeAccepts 1 p = true) :
    takeServiceReset .front slot p = accept (storeItem i (resetItem p i) .front .front p) := by
  rw [takeServiceReset_front hi, judged_cons_of_holds _ _ _ _ (beq_iff_eq.mpr h),
    judged_cons_of_holds _ _ _ _ hdriver, judged_cons_of_holds _ _ _ _ hdue, judged_cons_of_holds _ _ _ _ hstill,
    judged_cons_of_holds _ _ _ _ hroom, judged_nil]

/-- The part with this unlock latch. -/
def Panel.withLatch (b : Bool) (p : Panel) : Panel := p.withNvs { p.nvs with unlockLatch := b }

/-- Settles O51: by the link and its checks; the item's storing is `ItemStored`. -/
theorem aServiceReset : Obligations.AServiceReset := by
  unfold Obligations.AServiceReset
  rintro s l i slot it hready hslot rfl
  refine ⟨?_, ?_, fun hmay hroom hlow hapart => ?_⟩
  · rintro rfl hlocked
    exact exec_permitted (r := .serviceReset slot) hready rfl (takeServiceReset_of_locked hslot hlocked)
  · rintro rfl hmode
    exact exec_permitted (r := .serviceReset slot) hready rfl (takeServiceReset_of_mode hslot hmode)
  have haccepts := storeAccepts_of_room hroom hlow
  obtain ⟨b, origin, hb, hexec⟩ : ∃ (b : Bool) (origin : Origin),
      b = (if l = .service then false else s.nvs.unlockLatch) ∧ exec (requestCommand l (.serviceReset slot)) s =
        .next (s.answered l .ok [] (storeItem i (resetItem s.toPanel i) origin l (s.toPanel.withLatch b))) := by
    rcases hmay with ⟨rfl, hopen⟩ | ⟨rfl, hmode, hdriver, hdue, hstill⟩
    · exact ⟨false, .service, rfl, exec_permitted (r := .serviceReset slot) hready rfl
        (takeServiceReset_of_unlocked hslot hopen haccepts)⟩
    · exact ⟨s.nvs.unlockLatch, .front, rfl, exec_permitted (r := .serviceReset slot) hready rfl
        (takeServiceReset_of_driver hslot hmode hdriver hdue hstill haccepts)⟩
  have h := storeItem_stored (i := i) (it := resetItem s.toPanel i) (origin := origin) (p := s.toPanel.withLatch b) l
    hready.2.1 hlow hapart
  have hkm := congrArg ServiceItem.lastKm (h.stored .ok)
  have hday := congrArg ServiceItem.lastDay (h.stored .ok)
  have hinterval := congrArg ServiceItem.intervalKm (h.stored .ok)
  refine ⟨_, hexec, hkm, hday, hinterval, fun k hk => h.others k hk .ok, h.graded, h.held, ?_, ?_, h.noticed,
    h.dfa, h.trc, h.pmc, h.chk⟩
  · rw [h.nvs]
    rfl
  · rw [h.nvs]
    exact hb

/-! ### SERVICE_WRITE -/

theorem takeServiceWrite_eq {i : SlotId} {slot : Byte} (hi : slot.toNat = i.idx) (l : Link) (w : ItemParams)
    (p : Panel) : takeServiceWrite l slot w p =
      judged [(p.nvs.unlockLatch, .locked), (ItemParams.inRange w, .badValue),
          (decide (w.lastKm.toNat ≤ odoKm p) && decide (w.lastDay.toNat ≤ p.svm.dayCount), .badValue),
          (storeAccepts 1 p, .busy)]
        (fun p => accept
          (storeItem i (ItemParams.toItem w (p.svm.items.get i).state) .service l (consumeLatch p))) p := by
  rw [takeServiceWrite, hi, SlotId.ofIdx_idx]

theorem ItemParams.inRange_iff (w : ItemParams) : ItemParams.inRange w = true ↔ w.labelCode.toNat ≤ 15 ∧
    w.intervalKm.toNat ≤ 65000 ∧ w.intervalDays.toNat ≤ 1000 ∧ w.enabled.toNat ≤ 1 ∧ w.driverReset.toNat ≤ 1 := by
  simp only [ItemParams.inRange, Bool.and_eq_true, decide_eq_true_eq, and_assoc]

/-- R124: the last service carried is not in the future. -/
theorem notFuture_iff (w : ItemParams) (p : Panel) :
    (decide (w.lastKm.toNat ≤ odoKm p) && decide (w.lastDay.toNat ≤ p.svm.dayCount)) = true ↔
      w.lastKm.toNat ≤ p.dfa.odometer / 10 ∧ w.lastDay.toNat ≤ p.svm.dayCount := by
  rw [Bool.and_eq_true, decide_eq_true_eq, decide_eq_true_eq, odoKm]

theorem takeServiceWrite_of_bad {i : SlotId} {slot : Byte} (hi : slot.toNat = i.idx) {l : Link} {w : ItemParams}
    {p : Panel} (hopen : p.nvs.unlockLatch = true) (h : ¬(ItemParams.inRange w = true ∧
      (decide (w.lastKm.toNat ≤ odoKm p) && decide (w.lastDay.toNat ≤ p.svm.dayCount)) = true)) :
    takeServiceWrite l slot w p = refuse .badValue p := by
  rw [takeServiceWrite_eq hi, judged_cons_of_holds _ _ _ _ hopen]
  by_cases hrange : ItemParams.inRange w = true
  · rw [judged_cons_of_holds _ _ _ _ hrange]
    exact judged_cons_of_fails _ _ _ _ (Bool.eq_false_iff.mpr fun hf => h ⟨hrange, hf⟩)
  · exact judged_cons_of_fails _ _ _ _ (Bool.eq_false_iff.mpr hrange)

theorem takeServiceWrite_of_good {i : SlotId} {slot : Byte} (hi : slot.toNat = i.idx) {l : Link} {w : ItemParams}
    {p : Panel} (hopen : p.nvs.unlockLatch = true) (hrange : ItemParams.inRange w = true)
    (hpast : (decide (w.lastKm.toNat ≤ odoKm p) && decide (w.lastDay.toNat ≤ p.svm.dayCount)) = true)
    (hroom : storeAccepts 1 p = true) : takeServiceWrite l slot w p =
      accept (storeItem i (ItemParams.toItem w (p.svm.items.get i).state) .service l (consumeLatch p)) := by
  rw [takeServiceWrite_eq hi, judged_cons_of_holds _ _ _ _ hopen, judged_cons_of_holds _ _ _ _ hrange,
    judged_cons_of_holds _ _ _ _ hpast, judged_cons_of_holds _ _ _ _ hroom, judged_nil]

/-- Settles O52: by the item carried; its storing is `ItemStored`. -/
theorem aServiceWrite : Obligations.AServiceWrite := by
  unfold Obligations.AServiceWrite
  rintro s i slot w it hready hslot hopen rfl
  refine ⟨fun hbad => ?_, fun hlabel hkm hdays henabled hdriver hlastKm hlastDay hroom hlow hapart => ?_⟩
  · refine exec_permitted (r := .serviceWrite slot w) hready rfl (takeServiceWrite_of_bad hslot hopen ?_)
    rw [ItemParams.inRange_iff, notFuture_iff]
    omega
  · have hrange := (ItemParams.inRange_iff w).mpr ⟨hlabel, hkm, hdays, henabled, hdriver⟩
    have hpast := (notFuture_iff w s.toPanel).mpr ⟨hlastKm, hlastDay⟩
    have h := storeItem_stored (i := i) (it := ItemParams.toItem w (s.svm.items.get i).state) (origin := .service)
      (p := consumeLatch s.toPanel) .service hready.2.1 hlow hapart
    have hnvs := h.nvs
    refine ⟨_, exec_permitted (r := .serviceWrite slot w) hready rfl
      (takeServiceWrite_of_good hslot hopen hrange hpast (storeAccepts_of_room hroom hlow)), h.stored _,
      fun k hk => h.others k hk .ok, h.graded, h.held, ?_, ?_, h.noticed .front (by decide),
      h.noticed .rear (by decide),
      h.dfa, h.trc, h.pmc, h.chk⟩
    · exact (congrArg Nvs.cells hnvs).trans rfl
    · exact (congrArg Nvs.unlockLatch hnvs).trans rfl

end Sys2Proof.Machine
end

section
/-! PROOFS. The requests that write through the queue. Settles O55, O56. -/

namespace Sys2Proof.Machine

open Sys2Proof

/-! ### A cell read through the queue (R165, R166) -/

/-- The word that a job's data holds for a cell. -/
def JobData.wordAt (a : Nat) : JobData → Option StoreWord
  | .odometer _ => none
  | .cells first ws => if first ≤ a then ws[a - first]? else none

theorem Nvs.pendingWord_eq (n : Nvs) (a : Nat) (j : WriteJob) : n.pendingWord a j = j.data.wordAt a := by
  unfold Nvs.pendingWord Nvs.jobWord
  cases j.data <;> rfl

theorem Nvs.jobWord_of_wordAt {n : Nvs} {a : Nat} {j : WriteJob} {v : StoreWord} (h : j.data.wordAt a = some v) :
    n.jobWord a j = some v := by
  unfold Nvs.jobWord
  cases hd : j.data with
  | odometer => rw [hd] at h; cases h
  | cells f ws => rw [hd] at h; exact h

/-- Every waiting job that holds a word for the cell holds `v`, and some job does. -/
structure Nvs.ReadsAs (n : Nvs) (a : Nat) (v : StoreWord) : Prop where
  waiting : ∀ j ∈ n.queue, j.data.wordAt a = none ∨ j.data.wordAt a = some v
  some_job : n.Has fun j => j.data.wordAt a = some v

theorem Nvs.ReadsAs.readCell {n : Nvs} {a : Nat} {v : StoreWord} (h : n.ReadsAs a v) : n.readCell a = v := by
  have hword : n.pendingWord a = fun j => j.data.wordAt a := funext (n.pendingWord_eq a)
  unfold Nvs.readCell
  rw [hword]
  cases hfind : n.queue.reverse.findSome? fun j => j.data.wordAt a with
  | some w =>
    obtain ⟨j, hj, hw⟩ := List.exists_of_findSome?_eq_some hfind
    rcases h.waiting j (List.mem_reverse.mp hj) with hnone | hv
    · rw [hnone] at hw
      cases hw
    · exact (Option.some.inj (hv.symm.trans hw)).symm
  | none =>
    obtain ⟨j, hj | hj, hv⟩ := h.some_job
    · rw [List.findSome?_eq_none_iff.mp hfind j (List.mem_reverse.mpr hj)] at hv
      cases hv
    · rw [hj, Option.bind_some, Nvs.jobWord_of_wordAt hv]

theorem cells_wordAt_self (a : Nat) (v : StoreWord) : (JobData.cells a [v]).wordAt a = some v := by
  simp [JobData.wordAt]

theorem wordAt_of_not_covers {d : JobData} {a : Nat} {v : StoreWord} (h : d.covers (.cells a [v]) = false) :
    d.wordAt a = none := by
  cases d with
  | odometer => rfl
  | cells f ws =>
    rw [cells_covers_cells, ← Bool.decide_and, decide_eq_false_iff_not, List.length_singleton] at h
    show (if f ≤ a then ws[a - f]? else none) = none
    split
    case isTrue hle => exact List.getElem?_eq_none (by omega)
    case isFalse => rfl

theorem wordAt_mergeWith {d : JobData} {a : Nat} {v : StoreWord} (h : d.covers (.cells a [v]) = true) :
    (d.mergeWith (.cells a [v])).wordAt a = some v := by
  cases d with
  | odometer => cases h
  | cells f ws =>
    rw [cells_covers_cells, ← Bool.decide_and, decide_eq_true_iff, List.length_singleton] at h
    obtain ⟨hle, hlt⟩ := h
    have hlen : (ws.take (a - f)).length = a - f := by
      rw [List.length_take]
      omega
    show (if f ≤ a then (ws.take (a - f) ++ [v] ++ ws.drop (a - f + [v].length))[a - f]? else none) = some v
    rw [if_pos hle, List.append_assoc, List.getElem?_append_right (by omega), hlen, Nat.sub_self]
    rfl

/-- Every job of the queue that a cell's write has joined. -/
theorem mem_join_wordAt {n : Nvs} {a : Nat} {v : StoreWord} {c : JobClass} {o : Origin} {x : WriteJob}
    (hx : x ∈ n.join ⟨.cells a [v], c, o, none⟩) : x.data.wordAt a = none ∨ x.data.wordAt a = some v := by
  unfold Nvs.join at hx
  dsimp only at hx
  split at hx
  case isTrue =>
    obtain ⟨q, -, rfl⟩ := List.mem_map.mp hx
    by_cases hcov : q.data.covers (.cells a [v]) = true
    · rw [if_pos hcov]
      exact .inr (wordAt_mergeWith hcov)
    · rw [if_neg hcov]
      exact .inl (wordAt_of_not_covers (Bool.eq_false_iff.mpr hcov))
  case isFalse hnone =>
    rcases mem_insertByClass_iff.mp hx with rfl | hx
    · exact .inr (cells_wordAt_self a v)
    · refine .inl (wordAt_of_not_covers (v := v) (Bool.eq_false_iff.mpr fun hcov => hnone ?_))
      exact List.any_eq_true.mpr ⟨x, hx, hcov⟩

theorem exists_join_wordAt (n : Nvs) (a : Nat) (v : StoreWord) (c : JobClass) (o : Origin) :
    ∃ x ∈ n.join ⟨.cells a [v], c, o, none⟩, x.data.wordAt a = some v := by
  by_cases hcov : ∃ q ∈ n.queue, q.data.covers (.cells a [v]) = true
  · obtain ⟨q, hq, hcov⟩ := hcov
    exact ⟨_, Nvs.merge_mem_join hq hcov, wordAt_mergeWith hcov⟩
  · refine ⟨_, Nvs.mem_join_self fun q hq => Bool.eq_false_iff.mpr fun h => hcov ⟨q, hq, h⟩, cells_wordAt_self a v⟩

theorem mem_beginNext {n : Nvs} {x : WriteJob} (h : x ∈ n.beginNext.queue) : x ∈ n.queue := by
  unfold Nvs.beginNext at h
  split at h
  · exact h
  · split at h
    · split at h
      · exact List.mem_of_mem_eraseP h
      · exact h
    · split at h
      case h_1 heq => rw [heq]; exact List.mem_cons_of_mem _ h
      case h_2 => exact h

theorem lasting_wordAt (a : Nat) (v : StoreWord) : Lasting fun j => j.data.wordAt a = some v := fun _ _ h => h

/-- R166: a cell written through the queue reads as written, whatever jobs held it before. -/
theorem queueJob_readCell {a : Nat} {v : StoreWord} {c : JobClass} {o : Origin} {p : Panel}
    (hlow : p.pmc.supplyLow = false) : (queueJob ⟨.cells a [v], c, o, none⟩ p).nvs.readCell a = v := by
  rw [queueJob_of_released hlow]
  refine Nvs.ReadsAs.readCell ⟨fun j hj => mem_join_wordAt (mem_beginNext hj), ?_⟩
  obtain ⟨x, hx, hword⟩ := exists_join_wordAt p.nvs a v c o
  exact Nvs.Has.beginNext (lasting_wordAt a v) ⟨x, .inl hx, hword⟩

/-! ### WINDOW_WRITE -/

/-- The checks of WINDOW_WRITE, in their order. -/
def windowWriteChecks (p : Panel) (w : Window) : List (Bool × Status) :=
  [(w.writeEnabled, .locked), (w.region != .unused, .badValue),
    (!w.region.protectedFromWindow, .notPermitted), (!isActiveBank p.nvs w.region, .bankActive),
    (!(w.region.isBank && p.nvs.switchInFlight), .busy),
    (w.region != .identity || windowCell p.nvs w == Memory.erased, .notPermitted), (storeAccepts 1 p, .busy)]

/-- The write of a selected cell. -/
def windowWritten (value : StoreWord) (w : Window) (p : Panel) : Panel :=
  queueJob ⟨.cells (w.region.first + w.index) [value], .normal, .service, none⟩
    (p.withNvs { p.nvs with window := some (if w.mode = .noStep then w else w.step) })

theorem takeWindowWrite_eq {value : StoreWord} {w : Window} {p : Panel} (h : p.nvs.window = some w) :
    takeWindowWrite value p = judged (windowWriteChecks p w) (fun p => accept (windowWritten value w p)) p := by
  rw [takeWindowWrite, h]
  rfl

theorem takeWindowWrite_of_none {value : StoreWord} {p : Panel} (h : p.nvs.window = none) :
    takeWindowWrite value p = refuse .badValue p := by
  rw [takeWindowWrite, h]

/-- The first check that fails gives the status. -/
theorem judged_of_firstRefusal {checks : List (Bool × Status)} {effect : Panel → Answer} {p : Panel} {st : Status}
    (h : firstRefusal checks = some st) : judged checks effect p = refuse st p := by
  rw [judged, h]

theorem judged_of_accepted {checks : List (Bool × Status)} {effect : Panel → Answer} {p : Panel}
    (h : firstRefusal checks = none) : judged checks effect p = effect p := by
  rw [judged, h]

theorem exec_windowWrite {s : State} {w : Window} (hready : Ready .service s) (hw : s.nvs.window = some w)
    (value : StoreWord) {st : Status} (h : firstRefusal (windowWriteChecks s.toPanel w) = some st) :
    exec (.windowWrite .service value) s = .next (s.answered .service st [] s.toPanel) :=
  exec_permitted (r := .windowWrite value) hready rfl ((takeWindowWrite_eq hw).trans (judged_of_firstRefusal h))

theorem Region.isBank_iff (r : Region) : r.isBank = true ↔ r.size = 160 := by cases r <;> decide

/-- A selected cell that SERVICE may write, the store's room aside. -/
structure Window.Writable (n : Nvs) (w : Window) : Prop where
  enabled : w.writeEnabled = true
  used : w.region ≠ .unused
  free : w.region.protectedFromWindow = false
  inactive : isActiveBank n w.region = false
  blank : w.region = .identity → windowCell n w = Memory.erased

theorem Window.Writable.refusal {p : Panel} {w : Window} (h : w.Writable p.nvs) :
    firstRefusal (windowWriteChecks p w) =
      if (w.region.size = 160 ∧ p.nvs.switchInFlight = true) ∨ storeAccepts 1 p = false then some .busy else none := by
  have hblank : (w.region != .identity || windowCell p.nvs w == Memory.erased) = true := by
    by_cases hid : w.region = .identity
    · rw [h.blank hid]
      simp
    · simp [hid]
  have hbank : (!(w.region.isBank && p.nvs.switchInFlight)) = true ↔
      ¬(w.region.size = 160 ∧ p.nvs.switchInFlight = true) := by
    rw [Bool.not_eq_true', Bool.eq_false_iff, Ne, Bool.and_eq_true, Region.isBank_iff]
  unfold windowWriteChecks
  simp only [firstRefusal, h.enabled, h.free, h.inactive, hblank, bne_iff_ne.mpr h.used, Bool.not_false, if_true]
  by_cases hb : w.region.size = 160 ∧ p.nvs.switchInFlight = true
  · rw [if_neg fun hc => hbank.mp hc hb, if_pos (.inl hb)]
  · rw [if_pos (hbank.mpr hb)]
    cases hroom : storeAccepts 1 p <;> simp [hb]

theorem windowCell_identity {n : Nvs} {w : Window} (h : w.region = .identity) :
    windowCell n w = n.readCell (416 + w.index) := by
  rw [windowCell_eq, h]
  rfl

theorem windowWritten_nvs {value : StoreWord} {w : Window} {p : Panel} (hlow : p.pmc.supplyLow = false) :
    windowWritten value w p = { p with nvs := (windowWritten value w p).nvs } := by
  rw [windowWritten, queueJob_of_released (by exact hlow)]
  rfl

theorem refusal_of_locked {p : Panel} {w : Window} (h : w.writeEnabled = false) :
    firstRefusal (windowWriteChecks p w) = some .locked := by
  simp [windowWriteChecks, firstRefusal, h]

theorem refusal_of_unused {p : Panel} {w : Window} (h : w.writeEnabled = true) (hr : w.region = .unused) :
    firstRefusal (windowWriteChecks p w) = some .badValue := by
  simp [windowWriteChecks, firstRefusal, h, hr]

theorem refusal_of_protected {p : Panel} {w : Window} (h : w.writeEnabled = true)
    (hr : w.region = .odoRing ∨ w.region = .day ∨ w.region = .snapshot ∨ w.region = .control ∨
      w.region = .identity ∧ p.nvs.readCell (416 + w.index) ≠ 0xFFFF) :
    firstRefusal (windowWriteChecks p w) = some .notPermitted := by
  rcases hr with hr | hr | hr | hr | ⟨hr, hcell⟩
  case inr.inr.inr.inr =>
    have hwritten : (windowCell p.nvs w == Memory.erased) = false := by
      rw [windowCell_identity hr]
      exact beq_eq_false_iff_ne.mpr hcell
    simp [windowWriteChecks, firstRefusal, h, hr, Region.protectedFromWindow, isActiveBank, Region.isBank, hwritten]
  all_goals simp [windowWriteChecks, firstRefusal, h, hr, Region.protectedFromWindow]

theorem refusal_of_active {p : Panel} {w : Window} (h : w.writeEnabled = true)
    (hr : w.region = .calA ∧ p.nvs.activeBank = some .a ∨ w.region = .calB ∧ p.nvs.activeBank = some .b) :
    firstRefusal (windowWriteChecks p w) = some .bankActive := by
  rcases hr with ⟨hr, hbank⟩ | ⟨hr, hbank⟩
  all_goals simp [windowWriteChecks, firstRefusal, h, hr, Region.protectedFromWindow, isActiveBank, hbank]

/-- The regions that may be written, with their first cells and sizes. -/
theorem writable_regions {n : Nvs} {w : Window} {first size : Nat} (h : w.writeEnabled = true)
    (hr : w.region = .calA ∧ n.activeBank ≠ some .a ∧ first = 96 ∧ size = 160 ∨
      w.region = .calB ∧ n.activeBank ≠ some .b ∧ first = 256 ∧ size = 160 ∨
      w.region = .serviceTable ∧ first = 64 ∧ size = 24 ∨
      w.region = .identity ∧ n.readCell (416 + w.index) = 0xFFFF ∧ first = 416 ∧ size = 16) :
    w.Writable n ∧ w.region.first = first ∧ w.region.size = size := by
  rcases hr with ⟨hr, hbank, rfl, rfl⟩ | ⟨hr, hbank, rfl, rfl⟩ | ⟨hr, rfl, rfl⟩ | ⟨hr, hcell, rfl, rfl⟩
  · refine ⟨⟨h, by simp [hr], by rw [hr]; rfl, ?_, by simp [hr]⟩, by rw [hr]; rfl, by rw [hr]; rfl⟩
    rw [hr]
    exact beq_eq_false_iff_ne.mpr hbank
  · refine ⟨⟨h, by simp [hr], by rw [hr]; rfl, ?_, by simp [hr]⟩, by rw [hr]; rfl, by rw [hr]; rfl⟩
    rw [hr]
    exact beq_eq_false_iff_ne.mpr hbank
  · exact ⟨⟨h, by simp [hr], by rw [hr]; rfl, by rw [hr]; rfl, by simp [hr]⟩, by rw [hr]; rfl, by rw [hr]; rfl⟩
  · refine ⟨⟨h, by simp [hr], by rw [hr]; rfl, by rw [hr]; rfl, fun _ => ?_⟩, by rw [hr]; rfl, by rw [hr]; rfl⟩
    rw [windowCell_identity hr]
    exact hcell

theorem storeAccepts_eq_false_iff (p : Panel) :
    storeAccepts 1 p = false ↔ 5 < p.nvs.jobCount ∨ p.pmc.supplyLow = true := by
  rw [Bool.eq_false_iff, Ne, storeAccepts_iff, not_and_or, Bool.not_eq_false]
  exact or_congr_left (by omega)

theorem Window.step_eq (w : Window) : w.step =
    if w.index + 1 < w.region.size then { w with index := w.index + 1 }
    else { w with index := 0, writeEnabled := false } := rfl

/-- What the write of a selected cell brings. -/
structure CellWritten (a : Nat) (value : StoreWord) (w : Window) (p q : Panel) : Prop where
  held : (∀ j ∈ p.nvs.queue, j.data.covers (.cells a [value]) = false) → q.nvs.Holds (.cells a [value])
  reads : q.nvs.readCell a = value
  nvs : q.nvs = { p.nvs with
    queue := q.nvs.queue, inFlight := q.nvs.inFlight, cellTimer := q.nvs.cellTimer
    window := some (if w.mode = .noStep then w else w.step) }
  rest : q = { p with nvs := q.nvs }

theorem windowWritten_written {value : StoreWord} {w : Window} {p : Panel} (hlow : p.pmc.supplyLow = false) :
    CellWritten (w.region.first + w.index) value w p (windowWritten value w p) where
  held h := queueJob_holds (j := ⟨.cells (w.region.first + w.index) [value], .normal, .service, none⟩) hlow h
  reads := queueJob_readCell hlow
  nvs := (queueJob_only _ (p.withNvs { p.nvs with window := some (if w.mode = .noStep then w else w.step) })).nvs
  rest := windowWritten_nvs hlow

theorem exec_windowWrite_accepted {s : State} {w : Window} (hready : Ready .service s) (hw : s.nvs.window = some w)
    (value : StoreWord) (h : firstRefusal (windowWriteChecks s.toPanel w) = none) :
    exec (.windowWrite .service value) s =
      .next (s.answered .service .ok [] (windowWritten value w s.toPanel)) :=
  exec_permitted (r := .windowWrite value) hready rfl ((takeWindowWrite_eq hw).trans (judged_of_accepted h))

/-! ### BANK_SWITCH -/

theorem takeBankSwitch_eq {code : Byte} {bank : Bank} (hcode : bankOf code.toNat = some bank) (p : Panel) :
    takeBankSwitch code p =
      judged [(p.nvs.unlockLatch, .locked), (p.nvs.activeBank != some bank, .bankActive),
          (!p.nvs.switchInFlight && !(p.nvs.inOrder.any WriteJob.holdsBank), .busy), (storeAccepts 1 p, .busy),
          (bankValid p.nvs.cells bank, .bankInvalid)]
        (fun p => accept (queueJob (selectorJob bank)
          (p.withNvs { p.nvs with unlockLatch := false, switchInFlight := true }))) p := by
  rw [takeBankSwitch, hcode]

/-- The checks of BANK_SWITCH, in their order. -/
def bankSwitchChecks (bank : Bank) (p : Panel) : List (Bool × Status) :=
  [(p.nvs.unlockLatch, .locked), (p.nvs.activeBank != some bank, .bankActive),
    (!p.nvs.switchInFlight && !(p.nvs.inOrder.any WriteJob.holdsBank), .busy), (storeAccepts 1 p, .busy),
    (bankValid p.nvs.cells bank, .bankInvalid)]

/-- The selector's job joined. -/
def switchQueued (bank : Bank) (p : Panel) : Panel :=
  queueJob (selectorJob bank) (p.withNvs { p.nvs with unlockLatch := false, switchInFlight := true })

theorem exec_bankSwitch {s : State} {code : Byte} {bank : Bank} (hready : Ready .service s)
    (hcode : bankOf code.toNat = some bank) {st : Status}
    (h : firstRefusal (bankSwitchChecks bank s.toPanel) = some st) :
    exec (.bankSwitch .service code) s = .next (s.answered .service st [] s.toPanel) :=
  exec_permitted (r := .bankSwitch code) hready rfl ((takeBankSwitch_eq hcode _).trans (judged_of_firstRefusal h))

theorem exec_bankSwitch_accepted {s : State} {code : Byte} {bank : Bank} (hready : Ready .service s)
    (hcode : bankOf code.toNat = some bank) (h : firstRefusal (bankSwitchChecks bank s.toPanel) = none) :
    exec (.bankSwitch .service code) s = .next (s.answered .service .ok [] (switchQueued bank s.toPanel)) :=
  exec_permitted (r := .bankSwitch code) hready rfl ((takeBankSwitch_eq hcode _).trans (judged_of_accepted h))

theorem bankSwitchChecks_of_unlocked {bank : Bank} {p : Panel} (hopen : p.nvs.unlockLatch = true)
    (hother : p.nvs.activeBank ≠ some bank) : firstRefusal (bankSwitchChecks bank p) =
      if p.nvs.switchInFlight = true ∨ p.nvs.inOrder.any WriteJob.holdsBank = true ∨ storeAccepts 1 p = false then
        some .busy
      else if bankValid p.nvs.cells bank = false then some .bankInvalid else none := by
  unfold bankSwitchChecks
  simp only [firstRefusal, hopen, bne_iff_ne.mpr hother, if_true]
  cases p.nvs.switchInFlight
  · cases p.nvs.inOrder.any WriteJob.holdsBank
    · cases storeAccepts 1 p
      · rfl
      · cases bankValid p.nvs.cells bank <;> rfl
    · rfl
  · rfl

theorem switchQueued_eq {bank : Bank} {p : Panel} (hlow : p.pmc.supplyLow = false) :
    switchQueued bank p = { p with nvs := (switchQueued bank p).nvs } := by
  rw [switchQueued, queueJob_of_released (by exact hlow)]
  rfl

theorem switchQueued_nvs (bank : Bank) (p : Panel) : (switchQueued bank p).nvs = { p.nvs with
    queue := (switchQueued bank p).nvs.queue, inFlight := (switchQueued bank p).nvs.inFlight
    cellTimer := (switchQueued bank p).nvs.cellTimer, unlockLatch := false, switchInFlight := true } :=
  (queueJob_only (selectorJob bank) (p.withNvs { p.nvs with unlockLatch := false, switchInFlight := true })).nvs

theorem bankSwitch_judged {s : State} {code : Byte} {bank : Bank} (hready : Ready .service s)
    (hcode : bankOf code.toNat = some bank) :
    (s.nvs.unlockLatch = false →
      exec (.bankSwitch .service code) s = .next (s.answered .service .locked [] s.toPanel)) ∧
    (s.nvs.unlockLatch = true → s.nvs.activeBank = some bank →
      exec (.bankSwitch .service code) s = .next (s.answered .service .bankActive [] s.toPanel)) ∧
    (s.nvs.unlockLatch = true → s.nvs.activeBank ≠ some bank →
      (s.nvs.switchInFlight = true ∨ s.nvs.inOrder.any WriteJob.holdsBank = true ∨ 5 < s.nvs.jobCount ∨
        s.pmc.supplyLow = true) →
      exec (.bankSwitch .service code) s = .next (s.answered .service .busy [] s.toPanel)) ∧
    (s.nvs.unlockLatch = true → s.nvs.activeBank ≠ some bank → s.nvs.switchInFlight = false →
      s.nvs.inOrder.any WriteJob.holdsBank = false → s.nvs.jobCount ≤ 5 → s.pmc.supplyLow = false →
      (bankValid s.nvs.cells bank = false →
        exec (.bankSwitch .service code) s = .next (s.answered .service .bankInvalid [] s.toPanel)) ∧
      (bankValid s.nvs.cells bank = true →
        ∃ q, exec (.bankSwitch .service code) s = .next (s.answered .service .ok [] q) ∧
          ((∀ j ∈ s.nvs.queue, j.data.covers (selectorJob bank).data = false) → 
            q.nvs.HoldsUrgent (selectorJob bank).data) ∧
          q.nvs.cells = s.nvs.cells ∧ q.nvs.unlockLatch = false ∧ q.nvs.switchInFlight = true ∧
          q.nvs.activeBank = s.nvs.activeBank ∧ q.nvs.calibration = s.nvs.calibration ∧
          q = { s.toPanel with nvs := q.nvs })) := by
  refine ⟨fun hlocked => ?_, fun hopen hactive => ?_, fun hopen hother hbusy => ?_,
    fun hopen hother hswitch hbanks hroom hlow => ?_⟩
  · exact exec_bankSwitch hready hcode (by simp [bankSwitchChecks, firstRefusal, hlocked])
  · exact exec_bankSwitch hready hcode (by simp [bankSwitchChecks, firstRefusal, hopen, hactive])
  · refine exec_bankSwitch hready hcode ((bankSwitchChecks_of_unlocked hopen hother).trans (if_pos ?_))
    rw [storeAccepts_eq_false_iff]
    exact hbusy
  · have hfree : ¬(s.nvs.switchInFlight = true ∨ s.nvs.inOrder.any WriteJob.holdsBank = true ∨
        storeAccepts 1 s.toPanel = false) := by
      rw [hswitch, hbanks, storeAccepts_of_room hroom hlow]
      decide
    have hchecks := (bankSwitchChecks_of_unlocked hopen hother).trans (if_neg hfree)
    refine ⟨fun hbad => ?_, fun hgood => ?_⟩
    · exact exec_bankSwitch hready hcode (hchecks.trans (if_pos hbad))
    · have hnvs := switchQueued_nvs bank s.toPanel
      refine ⟨_, exec_bankSwitch_accepted hready hcode (hchecks.trans (if_neg (by rw [hgood]; decide))), fun h => ?_,
        by rw [hnvs], by rw [hnvs], by rw [hnvs], by rw [hnvs], by rw [hnvs], switchQueued_eq hlow⟩
      exact queueJob_holdsUrgent (j := selectorJob bank)
        (p := s.toPanel.withNvs { s.nvs with unlockLatch := false, switchInFlight := true }) rfl h

/-- Settles O55: each refusal by the first check that fails, and each job by its joining (`CellWritten`). -/
theorem writesGoThroughTheQueue : Obligations.WritesGoThroughTheQueue := by
  unfold Obligations.WritesGoThroughTheQueue
  intro s hready
  refine ⟨fun value hnone => ?_, fun value w hw hlocked => ?_, fun value w hw hopen => ⟨fun hr => ?_, fun hr => ?_,
    fun hr => ?_, fun first size hr => ?_⟩, fun code bank hcode => ?_⟩
  · exact exec_permitted (r := .windowWrite value) hready rfl (takeWindowWrite_of_none hnone)
  · exact exec_windowWrite hready hw value (refusal_of_locked hlocked)
  · exact exec_windowWrite hready hw value (refusal_of_unused hopen hr)
  · exact exec_windowWrite hready hw value (refusal_of_protected hopen hr)
  · exact exec_windowWrite hready hw value (refusal_of_active hopen hr)
  · obtain ⟨hwritable, rfl, rfl⟩ := writable_regions hopen hr
    have hrefusal := hwritable.refusal
    simp only [storeAccepts_eq_false_iff] at hrefusal
    refine ⟨fun hbusy => ?_, fun hswitch hroom hlow => ?_⟩
    · rw [if_pos hbusy] at hrefusal
      exact exec_windowWrite hready hw value hrefusal
    · rw [if_neg] at hrefusal
      · have h := windowWritten_written (value := value) (w := w) (p := s.toPanel) hlow
        refine ⟨_, exec_windowWrite_accepted hready hw value hrefusal, h.held, h.reads, ?_, ?_, h.rest, ?_⟩
        · rw [h.nvs]
        · rw [h.nvs, Window.step_eq]
        · rw [h.nvs]
      · rintro (⟨hsize, hon⟩ | hfull | hon)
        · rw [hswitch hsize] at hon
          cases hon
        · omega
        · rw [hlow] at hon
          cases hon
  · have hbank : bankOf code.toNat = some bank := by rw [hcode]; cases bank <;> rfl
    have h := bankSwitch_judged hready hbank
    cases bank
    · exact h
    · exact h

end Sys2Proof.Machine
end

section
/-! PROOFS. ODOMETER_SET. Settles O56. -/

namespace Sys2Proof.Machine

open Sys2Proof

/-- The checks of ODOMETER_SET, in their order. -/
def odometerChecks (v : BitVec 24) (p : Panel) : List (Bool × Status) :=
  [(p.nvs.unlockLatch, .locked), (!p.nvs.odometerLock, .locked), (p.pcu.stationary, .moving),
    (decide (p.dfa.odometer ≤ v.toNat) && decide (v.toNat ≤ odometerMax), .badValue), (storeAccepts 2 p, .busy)]

theorem carryOut_odometerSet (v : BitVec 24) (p : Panel) : carryOut .service (.odometerSet v) p =
    judged (odometerChecks v p) (fun p => accept (setOdometer v.toNat p)) p := rfl

theorem exec_odometerSet {s : State} {v : BitVec 24} (hready : Ready .service s) {st : Status}
    (h : firstRefusal (odometerChecks v s.toPanel) = some st) :
    exec (.odometerSet .service v) s = .next (s.answered .service st [] s.toPanel) :=
  exec_permitted (r := .odometerSet v) hready rfl ((carryOut_odometerSet v _).trans (judged_of_firstRefusal h))

theorem exec_odometerSet_accepted {s : State} {v : BitVec 24} (hready : Ready .service s)
    (h : firstRefusal (odometerChecks v s.toPanel) = none) :
    exec (.odometerSet .service v) s = .next (s.answered .service .ok [] (setOdometer v.toNat s.toPanel)) :=
  exec_permitted (r := .odometerSet v) hready rfl ((carryOut_odometerSet v _).trans (judged_of_accepted h))

/-- The odometer set, before its jobs are queued. -/
def odometerTaken (v : Nat) (p : Panel) : Panel :=
  Panel.onNvs Nvs.lockOdometer (judgeFaultIndication (takeOdometer v (consumeLatch p)))

/-- What the setting brings before its jobs. -/
structure OdometerTaken (v : Nat) (p q : Panel) : Prop where
  reaches : Reaches [.dfa, .svm, .chk, .wrc, .lnk, .nvs] p q
  dfa : q.dfa = { p.dfa with odometer := v, odoSubCount := 0, odoLost := false }
  nvs : q.nvs = { p.nvs with unlockLatch := false, odometerLock := true }
  dayCount : q.svm.dayCount = p.svm.dayCount
  indication : q.chk.faultIndication = faultTerms { p with dfa := q.dfa }

theorem takeOdometer_dfa (v : Nat) (p : Panel) :
    (takeOdometer v p).dfa = { p.dfa with odometer := v, odoSubCount := 0, odoLost := false } := by
  unfold takeOdometer
  dsimp only
  split
  · rw [(evaluate_reaches _).dfa]
    rfl
  · rfl

theorem takeOdometer_dayCount {v : Nat} {p : Panel} (h : p.nvs.recoveryDone = true) :
    (takeOdometer v p).svm.dayCount = p.svm.dayCount := by
  unfold takeOdometer
  dsimp only
  split
  · rw [evaluate_svm (by exact h)]
    rfl
  · rfl

theorem judgeFaultIndication_chk {p : Panel} (h : p.nvs.recoveryDone = true) :
    (judgeFaultIndication p).chk = { p.chk with faultIndication := faultTerms p } := by
  rw [(judgeFaultIndication_reach p).chk, Panel.withFaults, if_pos h]

theorem odometerTaken_taken {v : Nat} {p : Panel} (h : p.nvs.recoveryDone = true) :
    OdometerTaken v p (odometerTaken v p) := by
  have htake := takeOdometer_reaches v (consumeLatch p)
  have hjudge := judgeFaultIndication_reaches (takeOdometer v (consumeLatch p))
  have hall := hjudge.after (ds := [.dfa, .svm, .chk, .wrc, .lnk]) htake
  have hlatch : Reaches [.nvs] p (consumeLatch p) := withNvs_reaches _ p
  have hdfa : (odometerTaken v p).dfa = { p.dfa with odometer := v, odoSubCount := 0, odoLost := false } :=
    hjudge.dfa.trans (takeOdometer_dfa v _)
  have hdone : (takeOdometer v (consumeLatch p)).nvs.recoveryDone = true := by
    rw [htake.nvs]
    exact h
  refine ⟨(onNvs_reaches _ _).after (ds := [.dfa, .svm, .chk, .wrc, .lnk, .nvs]) (hall.after
    (ds := [.dfa, .svm, .chk, .wrc, .lnk, .nvs]) hlatch), hdfa, congrArg Nvs.lockOdometer hall.nvs,
    (congrArg Svm.dayCount hjudge.svm).trans (takeOdometer_dayCount (by exact h)), ?_⟩
  refine (congrArg Chk.faultIndication (judgeFaultIndication_chk hdone)).trans ?_
  unfold faultTerms senderFault
  rw [htake.chk, htake.adc, htake.nvs, takeOdometer_dfa, hdfa]
  rfl

/-! ### The two jobs -/

theorem queueJob_has_still {P : WriteJob → Prop} (hP : Lasting P) {e : WriteJob} {p : Panel}
    (hlow : p.pmc.supplyLow = false) (h : p.nvs.Has P)
    (hapart : ∀ x, P x → x.data.Apart e.data) : (queueJob e p).nvs.Has P := by
  obtain ⟨x, hx | hx, hPx⟩ := h
  · exact queueJob_has hP (Nvs.mem_join_of_apart hx (hapart x hPx).left (hapart x hPx).right) hPx (.inl hlow)
  · exact queueJob_has_of_inFlight hP hx hPx

theorem mem_queueJob {j x : WriteJob} {p : Panel} (hlow : p.pmc.supplyLow = false)
    (hx : x ∈ (queueJob j p).nvs.queue) : x ∈ p.nvs.join j := by
  rw [queueJob_of_released hlow] at hx
  exact mem_beginNext hx

theorem mem_join_of_uncovered {n : Nvs} {j x : WriteJob} (h : ∀ q ∈ n.queue, q.data.covers j.data = false)
    (hx : x ∈ n.join j) : x = j ∨ x ∈ n.queue := by
  unfold Nvs.join at hx
  dsimp only at hx
  rw [if_neg] at hx
  · exact (mem_insertByClass_iff.mp hx).imp id fun hm => (List.mem_filter.mp hm).1
  · simp only [List.any_eq_true, List.mem_filter, not_exists, not_and, Bool.not_eq_true]
    exact fun q hq => h q hq.1

theorem setOdometer_taken (v : Nat) (p : Panel) : setOdometer v p =
    queueJob lockJob (queueJob ⟨.odometer v, .urgent, .service, none⟩ (odometerTaken v p)) := setOdometer_eq v p

theorem setOdometer_only (v : Nat) (p : Panel) : QueueOnly (odometerTaken v p) (setOdometer v p) := by
  rw [setOdometer_taken]
  exact (queueJob_only _ _).trans (queueJob_only _ _)

theorem odometer_apart_lock (v : Nat) : (JobData.odometer v).Apart lockJob.data := ⟨rfl, rfl⟩

/-- Both jobs are held, apart from each other and from what waited. -/
theorem setOdometer_jobs {v : Nat} {p : Panel} (hlow : (odometerTaken v p).pmc.supplyLow = false)
    (h : ∀ j ∈ (odometerTaken v p).nvs.queue, j.data.covers lockJob.data = false ∧ ∀ x, j.data ≠ .odometer x) :
    (setOdometer v p).nvs.HoldsUrgent (.odometer v) ∧ (setOdometer v p).nvs.HoldsUrgent lockJob.data := by
  obtain ⟨q, hq⟩ : ∃ q, q = queueJob ⟨.odometer v, .urgent, .service, none⟩ (odometerTaken v p) := ⟨_, rfl⟩
  have huncovered : ∀ j ∈ (odometerTaken v p).nvs.queue, j.data.covers (.odometer v) = false := fun j hj =>
    covers_odometer (h j hj).2
  have hqlow : q.pmc.supplyLow = false := by rw [hq, (queueJob_reaches _ _).pmc, hlow]
  rw [setOdometer_taken, ← hq]
  refine ⟨queueJob_has_still (lasting_urgent _) hqlow ?_ fun x hx => ?_, queueJob_holdsUrgent rfl fun j hj => ?_⟩
  · rw [hq]
    exact queueJob_holdsUrgent (j := ⟨.odometer v, .urgent, .service, none⟩) rfl huncovered
  · rw [hx.1]
    exact odometer_apart_lock v
  · rw [hq] at hj
    rcases mem_join_of_uncovered huncovered (mem_queueJob hlow hj) with rfl | hj
    · rfl
    · exact (h j hj).1

/-- Settles O56: each refusal by the first check that fails, and the setting by `OdometerTaken`. -/
theorem theOdometerIsSetOnce : Obligations.TheOdometerIsSetOnce := by
  unfold Obligations.TheOdometerIsSetOnce
  intro s v hready
  refine ⟨fun hlocked => ?_, fun hopen hlock hmoving => ?_, fun hopen hlock hstill hbad => ?_,
    fun hopen hlock hstill hlo hhi hfull => ?_, fun hopen hlock hstill hlo hhi hroom hlow => ?_⟩
  · refine exec_odometerSet hready ?_
    rcases hlocked with h | h
    · simp [odometerChecks, firstRefusal, h]
    · simp [odometerChecks, firstRefusal, h]
  · exact exec_odometerSet hready (by simp [odometerChecks, firstRefusal, hopen, hlock, hmoving])
  · have hvalue : (decide (s.dfa.odometer ≤ v.toNat) && decide (v.toNat ≤ odometerMax)) = false := by
      rw [← Bool.decide_and, decide_eq_false_iff_not, odometerMax]
      omega
    exact exec_odometerSet hready (by simp [odometerChecks, firstRefusal, hopen, hlock, hstill, hvalue])
  · have hvalue : (decide (s.dfa.odometer ≤ v.toNat) && decide (v.toNat ≤ odometerMax)) = true := by
      rw [← Bool.decide_and, decide_eq_true_iff]
      exact ⟨hlo, hhi⟩
    have hroom : storeAccepts 2 s.toPanel = false := by
      rw [Bool.eq_false_iff, Ne, storeAccepts_iff]
      rintro ⟨hcount, hlow⟩
      rcases hfull with h | h
      · omega
      · rw [hlow] at h
        cases h
    exact exec_odometerSet hready (by simp [odometerChecks, firstRefusal, hopen, hlock, hstill, hvalue, hroom])
  · have hvalue : (decide (s.dfa.odometer ≤ v.toNat) && decide (v.toNat ≤ odometerMax)) = true := by
      rw [← Bool.decide_and, decide_eq_true_iff]
      exact ⟨hlo, hhi⟩
    have hroom : storeAccepts 2 s.toPanel = true := (storeAccepts_iff 2 _).mpr ⟨by omega, hlow⟩
    have h := odometerTaken_taken (v := v.toNat) (p := s.toPanel) hready.2.1
    have honly := setOdometer_only v.toNat s.toPanel
    have hnvs := honly.nvs
    have hreach := honly.reaches
    have hall := hreach.after (ds := [.dfa, .svm, .chk, .wrc, .lnk, .nvs]) h.reaches
    rw [h.nvs] at hnvs
    refine ⟨_, exec_odometerSet_accepted hready
      (by simp [odometerChecks, firstRefusal, hopen, hlock, hstill, hvalue, hroom]), hreach.dfa.trans h.dfa,
      by rw [hnvs], by rw [hnvs], fun hqueue => ?_, by rw [hnvs], hall.trc, hall.pcu, hall.gdr, hall.pmc,
      (congrArg Svm.dayCount hreach.svm).trans h.dayCount, ?_⟩
    · exact setOdometer_jobs (by rw [h.reaches.pmc, hlow]) (by rw [h.nvs]; exact hqueue)
    · rw [hreach.chk, h.indication, hreach.dfa]

end Sys2Proof.Machine
end

section
/-! PROOFS. The odometer ring and the service cells, recovered. Settles O35, O36. -/

namespace Sys2Proof.Machine

open Sys2Proof

/-! ### The largest record of the ring (R156) -/

/-- A record that is the largest of the first `n` slots, in the lowest slot that holds it. -/
structure LargestRecord (cells : List (Nat × StoreWord)) (n v slot : Nat) : Prop where
  slot_lt : slot < n
  value : ringSlotValue cells slot = some v
  largest : ∀ u w, u < n → ringSlotValue cells u = some w → w < v ∨ (w = v ∧ slot ≤ u)

theorem LargestRecord.unique {cells : List (Nat × StoreWord)} {n v slot w t : Nat} (h : LargestRecord cells n v slot)
    (k : LargestRecord cells n w t) : v = w ∧ slot = t := by
  have hkh := h.largest t w k.slot_lt k.value
  have hhk := k.largest slot v h.slot_lt h.value
  omega

/-- The best record found among the first `n` slots. -/
def BestOf (cells : List (Nat × StoreWord)) (n : Nat) : Option (Nat × Nat) → Prop
  | none => ∀ u, u < n → ringSlotValue cells u = none
  | some (v, slot) => LargestRecord cells n v slot

theorem bestOf_betterSlot {cells : List (Nat × StoreWord)} {n : Nat} {best : Option (Nat × Nat)}
    (h : BestOf cells n best) : BestOf cells (n + 1) (betterSlot cells best n) := by
  have hlast : ∀ u, u < n + 1 → u < n ∨ u = n := fun u hu => by omega
  unfold betterSlot
  cases hv : ringSlotValue cells n with
  | none =>
    cases best with
    | none => exact fun u hu => (hlast u hu).elim (h u) fun heq => heq ▸ hv
    | some p =>
      refine ⟨Nat.lt_succ_of_lt h.slot_lt, h.value, fun u w hu hw => (hlast u hu).elim (h.largest u w · hw) ?_⟩
      rintro rfl
      rw [hv] at hw
      cases hw
  | some v =>
    cases best with
    | none =>
      refine ⟨Nat.lt_succ_self n, hv, fun u w hu hw => (hlast u hu).elim (fun hlt => ?_) ?_⟩
      · rw [h u hlt] at hw
        cases hw
      · rintro rfl
        rw [hv] at hw
        exact .inr ⟨(Option.some.inj hw).symm, le_refl u⟩
    | some p =>
      obtain ⟨w, t⟩ := p
      show BestOf cells (n + 1) (if w < v then some (v, n) else some (w, t))
      split
      case isTrue hlt =>
        refine ⟨Nat.lt_succ_self n, hv, fun u x hu hx => (hlast u hu).elim (fun hun => ?_) ?_⟩
        · exact .inl (((h.largest u x hun hx).elim Nat.le_of_lt fun heq => heq.1.le).trans_lt hlt)
        · rintro rfl
          rw [hv] at hx
          exact .inr ⟨(Option.some.inj hx).symm, le_refl u⟩
      case isFalse hge =>
        refine ⟨Nat.lt_succ_of_lt h.slot_lt, h.value, fun u x hu hx => (hlast u hu).elim (h.largest u x · hx) ?_⟩
        rintro rfl
        rw [hv] at hx
        have := Option.some.inj hx
        have := h.slot_lt
        omega

theorem bestOf_foldl (cells : List (Nat × StoreWord)) :
    ∀ n, BestOf cells n ((List.range n).foldl (betterSlot cells) none)
  | 0 => fun u hu => absurd hu (Nat.not_lt_zero u)
  | n + 1 => by
    rw [List.range_succ, List.foldl_append]
    exact bestOf_betterSlot (bestOf_foldl cells n)

/-- Settles O35: the search keeps the best of the slots it has passed. -/
theorem theRingRecoversTheLargestRecord : Obligations.TheRingRecoversTheLargestRecord := by
  unfold Obligations.TheRingRecoversTheLargestRecord
  intro cells
  have hbest := bestOf_foldl cells 16
  rw [show (List.range 16).foldl (betterSlot cells) none = recoverRing true cells from rfl] at hbest
  cases hr : recoverRing true cells with
  | none =>
    rw [hr] at hbest
    refine ⟨fun v slot => ⟨fun h => (by cases h), fun ⟨hslot, hvalue, _⟩ => ?_⟩, fun _ => hbest, fun _ => rfl⟩
    rw [hbest slot hslot] at hvalue
    cases hvalue
  | some best =>
    obtain ⟨w, t⟩ := best
    rw [hr] at hbest
    refine ⟨fun v slot => ⟨fun h => ?_, fun ⟨hslot, hvalue, hlargest⟩ => ?_⟩, fun h => (by cases h), fun h => ?_⟩
    · cases h
      exact ⟨hbest.slot_lt, hbest.value, hbest.largest⟩
    · obtain ⟨rfl, rfl⟩ := LargestRecord.unique hbest ⟨hslot, hvalue, hlargest⟩
      rfl
    · exact absurd hbest.value (by simp [h t hbest.slot_lt])

/-! ### A service item's cells (R158) -/

theorem decodeRemainder_mod {m n count : Nat} (hle : n ≤ count) (hlt : count - n < m) :
    decodeRemainder m (n % m) count = n := by
  have hdiv := Nat.div_add_mod n m
  have hmod : n % m ≤ n := Nat.mod_le n m
  have hquot : (count - n % m) / m = n / m := by
    rw [Nat.div_eq_of_lt_le]
    · rw [Nat.mul_comm]; omega
    · rw [Nat.mul_comm, Nat.mul_add, Nat.mul_one]; omega
  rw [decodeRemainder, if_pos (by omega), hquot, Nat.mul_comm]
  omega

theorem readRun_itemWords {cells : List (Nat × StoreWord)} {i : SlotId} {it : ServiceItem}
    (h : ∀ k, k < 4 → Memory.read cells (64 + 4 * i.idx + k) = (itemWords it).getD k 0) :
    readRun cells i.firstCell 4 = itemWords it := by
  show [Memory.read cells (64 + 4 * i.idx + 0), Memory.read cells (64 + 4 * i.idx + 1),
    Memory.read cells (64 + 4 * i.idx + 2), Memory.read cells (64 + 4 * i.idx + 3)] = itemWords it
  rw [h 0 (by decide), h 1 (by decide), h 2 (by decide), h 3 (by decide)]
  rfl

/-- The item's last service is stored as remainders, and its state not at all. -/
def ServiceItem.remainders (it : ServiceItem) : ServiceItem :=
  { it with lastKm := it.lastKm % 65536, lastDay := it.lastDay % 1024, state := .inactive }

theorem byteSum_le : ∀ ws : List StoreWord, byteSum ws ≤ 510 * ws.length
  | [] => Nat.le_refl 0
  | w :: ws => by
    have ih := byteSum_le ws
    have hw := w.isLt
    rw [byteSum, List.length_cons]
    omega

theorem byteSum_append (vs : List StoreWord) : ∀ ws : List StoreWord, byteSum (ws ++ vs) = byteSum ws + byteSum vs
  | [] => (Nat.zero_add _).symm
  | w :: ws => by
    rw [List.cons_append, byteSum, byteSum, byteSum_append vs ws]
    omega

theorem byteSum_checked {low check : Nat} (hl : low < 256) (hc : check < 256) :
    byteSum [BitVec.ofNat 16 (low + 256 * check)] = low + check := by
  have hword : (BitVec.ofNat 16 (low + 256 * check)).toNat = low + 256 * check := by
    rw [BitVec.toNat_ofNat]
    exact Nat.mod_eq_of_lt (by omega)
  rw [byteSum, byteSum, hword]
  omega

/-- R125: the check makes the bytes of an item's words sum to its flags. -/
theorem byteSum_itemWords (it : ServiceItem) : (byteSum (itemWords it) % 256 + 256 - 0x5A) % 256 =
    it.enabled.toNat + 2 * it.driverReset.toNat := by
  obtain ⟨words, low, hlow, hlen, hwords⟩ : ∃ (words : List StoreWord) (low : Nat), low < 256 ∧ words.length = 3 ∧
      itemWords it = words ++ [BitVec.ofNat 16 (low + 256 * ((0x5A + it.enabled.toNat + 2 * it.driverReset.toNat +
        256 * 8 - (byteSum words + low)) % 256))] :=
    ⟨(itemWords it).take 3, it.lastDay / 4 % 256, Nat.mod_lt _ (by decide), rfl, rfl⟩
  have hbound := byteSum_le words
  have henabled := Bool.toNat_le it.enabled
  have hdriver := Bool.toNat_le it.driverReset
  rw [hwords, byteSum_append, byteSum_checked hlow (Nat.mod_lt _ (by decide))]
  omega

/-- R125: each field of an item, from its words. -/
theorem itemWords_fields {it : ServiceItem} (hl : it.labelCode ≤ 15) (hkm : it.intervalKm ≤ 65000)
    (hdays : it.intervalDays ≤ 1000) :
    ((itemWords it).getD 0 0).toNat = it.intervalKm ∧ ((itemWords it).getD 1 0).toNat = it.lastKm % 65536 ∧
      ((itemWords it).getD 2 0).toNat % 1024 = it.intervalDays ∧
      ((itemWords it).getD 2 0).toNat / 1024 % 16 = it.labelCode ∧
      ((itemWords it).getD 2 0).toNat / 16384 + 4 * (((itemWords it).getD 3 0).toNat % 256) = it.lastDay % 1024 := by
  obtain ⟨check, hcheck⟩ : ∃ check, (itemWords it).getD 3 0 = BitVec.ofNat 16 (it.lastDay / 4 % 256 + 256 * check) :=
    ⟨_, rfl⟩
  have h0 : (itemWords it).getD 0 0 = BitVec.ofNat 16 it.intervalKm := rfl
  have h1 : (itemWords it).getD 1 0 = BitVec.ofNat 16 it.lastKm := rfl
  have h2 : (itemWords it).getD 2 0 = BitVec.ofNat 16
    (it.intervalDays % 1024 + 1024 * (it.labelCode % 16) + 16384 * (it.lastDay % 4)) := rfl
  rw [h0, h1, h2, hcheck]
  simp only [BitVec.toNat_ofNat, Nat.reducePow]
  refine ⟨?_, trivial, ?_, ?_, ?_⟩ <;> omega

theorem flags_bits (a b : Bool) : ((a.toNat + 2 * b.toNat) % 2 == 1) = a ∧ ((a.toNat + 2 * b.toNat) / 2 == 1) = b := by
  revert a b
  decide

theorem rawItem_itemWords {cells : List (Nat × StoreWord)} {i : SlotId} {it : ServiceItem} (hl : it.labelCode ≤ 15)
    (hkm : it.intervalKm ≤ 65000) (hdays : it.intervalDays ≤ 1000) (h : readRun cells i.firstCell 4 = itemWords it) :
    rawItem true cells i = some it.remainders := by
  have hflags := byteSum_itemWords it
  have hlt : it.enabled.toNat + 2 * it.driverReset.toNat < 4 := by
    have henabled := Bool.toNat_le it.enabled
    have hdriver := Bool.toNat_le it.driverReset
    omega
  obtain ⟨hw0, hw1, hw2, hlabel, hday⟩ := itemWords_fields hl hkm hdays
  obtain ⟨henabled, hdriver⟩ := flags_bits it.enabled it.driverReset
  unfold rawItem
  dsimp only
  rw [h, hflags, Bool.true_and, if_pos (decide_eq_true hlt), hw0, hw1, hw2, hlabel, hday, henabled, hdriver]
  rfl

/-- Settles O36: the words carry the item but for the remainders of its last service, and these decode to it. -/
theorem aStoredServiceItemIsRecovered : Obligations.AStoredServiceItemIsRecovered := by
  unfold Obligations.AStoredServiceItemIsRecovered
  intro cells i it km day hl hkm hdays hlastKm hlastDay hspanKm hspanDay hcells
  rw [rawItem_itemWords hl hkm hdays (readRun_itemWords hcells)]
  unfold recoverItem ServiceItem.remainders
  dsimp only
  rw [decodeRemainder_mod hlastKm hspanKm, decodeRemainder_mod hlastDay hspanDay, clampAt_eq_min, clampAt_eq_min,
    clampAt_eq_min, clampAt_eq_min, Nat.min_eq_right hkm, Nat.min_eq_right hdays, Nat.min_eq_right hlastKm,
    Nat.min_eq_right hlastDay, decide_eq_false (Nat.not_lt.mpr hkm), decide_eq_false (Nat.not_lt.mpr hdays),
    decide_eq_false (Nat.not_lt.mpr hlastKm), decide_eq_false (Nat.not_lt.mpr hlastDay)]
  rfl

end Sys2Proof.Machine
end

section
/-! PROOFS. The characters of requests and replies. Settles O37. -/

namespace Sys2Proof.Machine

open Sys2Proof

theorem param2_char2 (v : BitVec 16) : param2 (BitVec.ofNat 8 v.toNat) (BitVec.ofNat 8 (v.toNat / 256)) = v := by
  have hv := v.isLt
  apply BitVec.eq_of_toNat_eq
  rw [param2, BitVec.toNat_append, BitVec.toNat_ofNat, BitVec.toNat_ofNat,
    ← Nat.shiftLeft_add_eq_or_of_lt (Nat.mod_lt _ (by decide)), Nat.shiftLeft_eq]
  omega

theorem param3_char3 (v : BitVec 24) : param3 (BitVec.ofNat 8 v.toNat) (BitVec.ofNat 8 (v.toNat / 256))
    (BitVec.ofNat 8 (v.toNat / 65536)) = v := by
  have hv := v.isLt
  apply BitVec.eq_of_toNat_eq
  rw [param3, BitVec.toNat_append, BitVec.toNat_append, BitVec.toNat_ofNat, BitVec.toNat_ofNat, BitVec.toNat_ofNat,
    ← Nat.shiftLeft_add_eq_or_of_lt (Nat.mod_lt _ (by decide)),
    ← Nat.shiftLeft_add_eq_or_of_lt (Nat.mod_lt _ (by decide)), Nat.shiftLeft_eq, Nat.shiftLeft_eq]
  omega

/-- R199: the code and the parameter characters are read back as the request. -/
theorem requestOf_requestCode (r : Request) : requestOf (requestCode r) (requestParams r) = some r := by
  cases r
  case noticeMaskSet v => exact congrArg (some ∘ Request.noticeMaskSet) (param2_char2 v)
  case tripSetDestination v => exact congrArg (some ∘ Request.tripSetDestination) (param2_char2 v)
  case overspeedSet v => exact congrArg (some ∘ Request.overspeedSet) (param2_char2 v)
  case windowWrite v => exact congrArg (some ∘ Request.windowWrite) (param2_char2 v)
  case clockSet v => exact congrArg (some ∘ Request.clockSet) (param3_char3 v)
  case odometerSet v => exact congrArg (some ∘ Request.odometerSet) (param3_char3 v)
  case serviceWrite slot w =>
    show some (Request.serviceWrite slot ⟨w.enabled, w.labelCode, param2 _ _, param2 _ _, param3 _ _ _, param2 _ _,
      w.driverReset⟩) = _
    rw [param2_char2, param2_char2, param3_char3, param2_char2]
  all_goals rfl

theorem paramCount_requestCode (r : Request) : paramCount (requestCode r) = some (requestParams r).length := by
  cases r <;> rfl

theorem charSum_append (ds : List Byte) : ∀ cs : List Byte, charSum (cs ++ ds) = charSum cs + charSum ds
  | [] => (BitVec.zero_add _).symm
  | c :: cs => by rw [List.cons_append, charSum, charSum, charSum_append ds cs, BitVec.add_assoc]

/-- A check character makes its message sum to 0. -/
theorem charSum_checked (cs : List Byte) : charSum (cs ++ [-(charSum cs)]) = 0 := by
  rw [charSum_append]
  show charSum cs + (-charSum cs + 0#8) = 0#8
  rw [BitVec.add_zero, BitVec.add_right_neg]

/-- Settles O37. -/
theorem requestsAndRepliesAreEncoded : Obligations.RequestsAndRepliesAreEncoded := by
  unfold Obligations.RequestsAndRepliesAreEncoded
  exact ⟨fun r => ⟨requestOf_requestCode r, paramCount_requestCode r⟩,
    fun status data => ⟨charSum_checked _, _, rfl⟩⟩

end Sys2Proof.Machine
end

section
/-! PROOFS. What the receiver makes of a clean character (R175, R176). -/

namespace Sys2Proof.Machine

open Sys2Proof

theorem threeSamples_getLsbD (b : Bool) {i : Nat} (h : i < 3) : (threeSamples b).getLsbD i = b := by
  cases b
  · simp [threeSamples]
  · simp only [threeSamples]
    revert i
    decide

/-- A character in the order of its bits: the start bit, the data from the lowest, the mark bit and the stop bit. -/
def characterBits (data : Byte) (mark : Bool) : List Bool :=
  [false, data.getLsbD 0, data.getLsbD 1, data.getLsbD 2, data.getLsbD 3, data.getLsbD 4, data.getLsbD 5,
    data.getLsbD 6, data.getLsbD 7, mark, true]

/-- The samples of a bit stand below those of the bits that follow it. -/
theorem append_threeSamples {n : Nat} (x : BitVec n) (b : Bool) (k : Nat) {j : Nat} (hj : j < 3) :
    (x ++ threeSamples b).getLsbD (3 * (k + 1) + j) = x.getLsbD (3 * k + j) := by
  rw [BitVec.getLsbD_append, if_neg (by omega)]
  congr 1
  omega

theorem append_threeSamples_zero {n : Nat} (x : BitVec n) (b : Bool) {j : Nat} (hj : j < 3) :
    (x ++ threeSamples b).getLsbD (3 * 0 + j) = b := by
  rw [Nat.mul_zero, Nat.zero_add, BitVec.getLsbD_append, if_pos hj, threeSamples_getLsbD b hj]

theorem cleanCharacter_getLsbD (d : Byte) (mark : Bool) {b j : Nat} (hb : b < 11) (hj : j < 3) :
    (cleanCharacter d mark).getLsbD (3 * b + j) = (characterBits d mark).getD b false := by
  have hlast : (threeSamples true).getLsbD (3 * 0 + j) = true := by
    rw [Nat.mul_zero, Nat.zero_add, threeSamples_getLsbD true hj]
  unfold cleanCharacter
  interval_cases b
  all_goals
    simp only [append_threeSamples _ _ _ hj, append_threeSamples_zero _ _ hj, hlast]
    rfl

/-- The three samples of each bit agree. -/
theorem clean_majority (d : Byte) (mark : Bool) {b : Nat} (hb : b < 11) :
    majority (cleanCharacter d mark) b = (characterBits d mark).getD b false := by
  have h0 := cleanCharacter_getLsbD d mark (j := 0) hb (by decide)
  rw [Nat.add_zero] at h0
  unfold majority
  dsimp only
  rw [h0, cleanCharacter_getLsbD d mark hb (by decide), cleanCharacter_getLsbD d mark hb (by decide), Bool.and_self,
    Bool.or_self, Bool.or_self]

theorem clean_disagree (d : Byte) (mark : Bool) {b : Nat} (hb : b < 11) :
    disagree (cleanCharacter d mark) b = false := by
  have h0 := cleanCharacter_getLsbD d mark (j := 0) hb (by decide)
  rw [Nat.add_zero] at h0
  unfold disagree
  dsimp only
  rw [h0, cleanCharacter_getLsbD d mark hb (by decide), cleanCharacter_getLsbD d mark hb (by decide), beq_self_eq_true]
  rfl

theorem maskOf_testBit : ∀ (bs : List Bool) (i : Nat), (maskOf bs).testBit i = bs.getD i false
  | [], i => by rw [maskOf, Nat.zero_testBit]; rfl
  | b :: bs, 0 => by
    rw [maskOf, Nat.testBit_zero, List.getD_cons_zero]
    cases b <;> simp
  | b :: bs, i + 1 => by
    have hhalf : (b.toNat + 2 * maskOf bs) / 2 = maskOf bs := by
      have := Bool.toNat_lt b
      omega
    rw [maskOf, Nat.testBit_succ, hhalf, maskOf_testBit bs i, List.getD_cons_succ]

theorem maskOf_bits (d : Byte) : BitVec.ofNat 8 (maskOf [d.getLsbD 0, d.getLsbD 1, d.getLsbD 2, d.getLsbD 3,
    d.getLsbD 4, d.getLsbD 5, d.getLsbD 6, d.getLsbD 7]) = d := by
  refine BitVec.eq_of_getLsbD_eq fun i hi => ?_
  rw [BitVec.getLsbD_ofNat, maskOf_testBit, decide_eq_true hi, Bool.true_and]
  interval_cases i <;> rfl

/-- R175: a clean character is received as it was sent. -/
theorem rxChar_clean (d : Byte) (mark : Bool) : rxChar (cleanCharacter d mark) = ⟨d, mark, false, false⟩ := by
  have hdata : (List.range 8).map (fun i => majority (cleanCharacter d mark) (i + 1)) =
      [d.getLsbD 0, d.getLsbD 1, d.getLsbD 2, d.getLsbD 3, d.getLsbD 4, d.getLsbD 5, d.getLsbD 6, d.getLsbD 7] := by
    rw [List.map_congr_left fun i hi => clean_majority d mark (by have := List.mem_range.mp hi; omega)]
    rfl
  have hnoise : (List.range 11).any (disagree (cleanCharacter d mark)) = false :=
    List.any_eq_false.mpr fun b hb => by rw [clean_disagree d mark (List.mem_range.mp hb)]; decide
  rw [rxChar, hdata, maskOf_bits, hnoise, clean_majority d mark (by decide), clean_majority d mark (by decide)]
  rfl

theorem clean_start (d : Byte) (mark : Bool) : majority (cleanCharacter d mark) 0 = false :=
  clean_majority d mark (by decide)

end Sys2Proof.Machine
end

section
/-! PROOFS. The receiver's framing of characters into messages. Settles O39. -/

namespace Sys2Proof.Machine

open Sys2Proof

/-! ### A link's port in the part -/

theorem withPort_withPort (l : Link) (a b : LinkPort) (p : Panel) : (p.withPort l a).withPort l b = p.withPort l b := by
  cases l <;> rfl

theorem withPort_get (l : Link) (p : Panel) : p.withPort l (p.lnk.ports.get l) = p := by
  cases l <;> rfl

theorem get_withPort (l : Link) (a : LinkPort) (p : Panel) : (p.withPort l a).lnk.ports.get l = a :=
  PerLink.get_set_self _ _ _

/-! ### What a port does with a character -/

theorem LinkPort.receive_clean {port : LinkPort} (h : port.looking = true) (d : Byte) (mark : Bool) :
    port.receive ⟨d, mark, false, false⟩ = port := by
  cases port
  cases h
  rfl

theorem LinkPort.begin_begin (d : Byte) (port : LinkPort) : port.begin d = { port with
    receiveState := if (paramCount d.toNat).isSome then .inMessage else .inUnknown
    received := [d], checkSum := d, spoiled := false, gapTimer := some 10000 } := rfl

theorem LinkPort.receive_eq (c : RxChar) (port : LinkPort) : port.receive c = { port with
    looking := !c.framing
    charErrors := if c.errored then min 255 (port.charErrors + 1) else port.charErrors } := by
  rw [LinkPort.receive, countEvent_eq]

theorem LinkPort.hold_eq (c : RxChar) {port : LinkPort} (h : port.received.length < 16) : port.hold c = { port with
    received := port.received ++ [c.data], checkSum := port.checkSum + c.data
    spoiled := port.spoiled || c.errored, gapTimer := some 10000 } := by
  rw [LinkPort.hold, if_pos h]
  rfl

theorem LinkPort.full_iff {port : LinkPort} {code : Byte} {rest : List Byte} {n : Nat}
    (hr : port.received = code :: rest) (hn : paramCount code.toNat = some n) :
    port.full = true ↔ n + 1 ≤ rest.length := by
  rw [LinkPort.full, hr]
  dsimp only
  rw [hn]
  simp

theorem LinkPort.full_hold {port : LinkPort} {code : Byte} {rest : List Byte} {n : Nat} (c : RxChar)
    (hr : port.received = code :: rest) (hlen : port.received.length < 16) (hn : paramCount code.toNat = some n) :
    (port.hold c).full = true ↔ n ≤ rest.length := by
  have hheld : (port.hold c).received = code :: (rest ++ [c.data]) := by
    rw [LinkPort.hold_eq c hlen, hr]
    rfl
  rw [LinkPort.full_iff hheld hn]
  simp

/-! ### What a link does with a character (R175 to R178) -/

theorem characterReceived_deaf {l : Link} {p : Panel} (h : (p.lnk.ports.get l).looking = false)
    (samples : BitVec 33) : characterReceived l samples p = p := by
  rw [characterReceived, h, Bool.false_and, if_neg Bool.false_ne_true]

theorem characterReceived_false {l : Link} {samples : BitVec 33} (h : majority samples 0 = true) (p : Panel) :
    characterReceived l samples p = p := by
  rw [characterReceived, h, Bool.not_true, Bool.and_false, if_neg Bool.false_ne_true]

theorem characterReceived_framed {l : Link} {samples : BitVec 33} {p : Panel}
    (hl : (p.lnk.ports.get l).looking = true) (h : majority samples 0 = false) :
    characterReceived l samples p = frameCharacter l (rxChar samples)
      (p.withPort l ((p.lnk.ports.get l).receive (rxChar samples))) := by
  rw [characterReceived, hl, h, Bool.not_false, Bool.and_true, if_pos rfl]

theorem characterReceived_clean {l : Link} {p : Panel} (hl : (p.lnk.ports.get l).looking = true) (d : Byte)
    (mark : Bool) : characterReceived l (cleanCharacter d mark) p =
      if mark then markCharacter l ⟨d, mark, false, false⟩ p else dataCharacter l ⟨d, mark, false, false⟩ p := by
  rw [characterReceived_framed hl (clean_start d mark), rxChar_clean, LinkPort.receive_clean hl, withPort_get]
  cases mark <;> rfl

/-- A character that is not a clean mark character is a data character (R175, R176). -/
theorem characterReceived_data {l : Link} {samples : BitVec 33} {p : Panel}
    (hl : (p.lnk.ports.get l).looking = true) (h : majority samples 0 = false)
    (hc : (rxChar samples).mark = false ∨ (rxChar samples).errored = true) : characterReceived l samples p =
      dataCharacter l (rxChar samples) (p.withPort l ((p.lnk.ports.get l).receive (rxChar samples))) := by
  have hdata : ((rxChar samples).mark && !(rxChar samples).errored) = false := by
    rcases hc with hm | he
    · rw [hm, Bool.false_and]
    · rw [he, Bool.not_true, Bool.and_false]
  rw [characterReceived_framed hl h, frameCharacter, hdata, if_neg Bool.false_ne_true]

theorem endMessage_idle {l : Link} {p : Panel} (h : (p.lnk.ports.get l).receiveState = .idle) :
    endMessage l p = p.withPort l (p.lnk.ports.get l).idle := by
  unfold endMessage
  dsimp only
  rw [h]

theorem markCharacter_idle {l : Link} {p : Panel} (c : RxChar) (h : (p.lnk.ports.get l).receiveState = .idle) :
    markCharacter l c p = p.withPort l ((p.lnk.ports.get l).begin c.data) := by
  unfold markCharacter
  dsimp only
  rw [endMessage_idle h, get_withPort, withPort_withPort]
  rfl

theorem gapTimerExpiry_running {l : Link} {p : Panel} (h : (p.lnk.ports.get l).gapTimer.isSome = true) :
    gapTimerExpiry l p = endMessage l p := by
  rw [gapTimerExpiry, if_pos h]

theorem dataCharacter_idle {l : Link} {p : Panel} (c : RxChar) (h : (p.lnk.ports.get l).receiveState = .idle) :
    dataCharacter l c p = if c.errored then p else
      p.withPort l { p.lnk.ports.get l with charErrors := countEvent (p.lnk.ports.get l).charErrors } := by
  unfold dataCharacter
  dsimp only
  rw [h]

/-- A data character that does not complete the message in progress joins it. -/
theorem dataCharacter_held {l : Link} {p : Panel} (c : RxChar) (h : (p.lnk.ports.get l).receiveState = .inUnknown ∨
      (p.lnk.ports.get l).receiveState = .inMessage ∧ ((p.lnk.ports.get l).hold c).full = false) :
    dataCharacter l c p = p.withPort l ((p.lnk.ports.get l).hold c) := by
  unfold dataCharacter
  dsimp only
  rcases h with h | ⟨h, hfull⟩
  · rw [h]
  · rw [h]
    dsimp only
    rw [hfull, if_neg Bool.false_ne_true]

theorem dataCharacter_full {l : Link} {p : Panel} {c : RxChar} (h : (p.lnk.ports.get l).receiveState = .inMessage)
    (hfull : ((p.lnk.ports.get l).hold c).full = true) :
    dataCharacter l c p = completeMessage l (p.withPort l ((p.lnk.ports.get l).hold c)) := by
  unfold dataCharacter
  dsimp only
  rw [h]
  dsimp only
  rw [hfull, if_pos rfl]

/-- R177: what a complete message that sums to 0 is taken as. -/
def messageOf : Option Request → Message
  | some r => .good r
  | none => .unknown

theorem completeMessage_eq (l : Link) (p : Panel) : completeMessage l p =
    if (p.lnk.ports.get l).sumsBad then deliverMessage l .bad (p.withPort l (p.lnk.ports.get l).idle.discard)
    else deliverMessage l (messageOf (p.lnk.ports.get l).request)
      (goodMessage l (p.withPort l (p.lnk.ports.get l).idle)) := by
  rfl

/-- R177: a message whose characters do not sum to 0 or that was spoiled is bad. -/
theorem completeMessage_bad {l : Link} {p : Panel} (h : (p.lnk.ports.get l).sumsBad = true) :
    completeMessage l p = deliverMessage l .bad (p.withPort l (p.lnk.ports.get l).idle.discard) := by
  rw [completeMessage_eq, if_pos h]

theorem completeMessage_good {l : Link} {p : Panel} (h : (p.lnk.ports.get l).sumsBad = false) :
    completeMessage l p = deliverMessage l (messageOf (p.lnk.ports.get l).request)
      (goodMessage l (p.withPort l (p.lnk.ports.get l).idle)) := by
  rw [completeMessage_eq, h, if_neg Bool.false_ne_true]

theorem sumsBad_iff (port : LinkPort) : port.sumsBad = true ↔ port.spoiled = true ∨ port.checkSum ≠ 0 := by
  simp [LinkPort.sumsBad]

/-- A complete bad message is answered, waits, or is an overrun, as its port stands (R178). -/
theorem deliverMessage_bad {l : Link} {s : State} (ended : LinkPort)
    (hreply : ended.reply = (s.lnk.ports.get l).reply) (hwait : ended.waiting = (s.lnk.ports.get l).waiting) :
    (Ready l s → deliverMessage l .bad (s.toPanel.withPort l ended) =
      (s.answered l .badMessage [] (s.toPanel.withPort l ended)).toPanel) ∧
    ((s.lnk.ports.get l).reply.isSome = true → (s.lnk.ports.get l).waiting = none →
      deliverMessage l .bad (s.toPanel.withPort l ended) =
        s.toPanel.withPort l { ended with waiting := some .bad }) ∧
    ((s.lnk.ports.get l).waiting.isSome = true → deliverMessage l .bad (s.toPanel.withPort l ended) =
        s.toPanel.withPort l { ended with overruns := min 255 (ended.overruns + 1) }) := by
  have hport : (s.toPanel.withPort l ended).lnk.ports.get l = ended := get_withPort l ended s.toPanel
  refine ⟨fun hready => ?_, fun hr hw => ?_, fun hw => ?_⟩
  · obtain ⟨-, hdone, hnone, hidle⟩ := hready
    exact deliverMessage_ready .bad (by rw [hport, hwait, hidle]) (by rw [hport, hreply, hnone]) hdone
  · rw [deliverMessage_replying (by rw [hport, hwait, hw]) (by rw [hport, hreply, hr]), hport, withPort_withPort]
  · rw [deliverMessage_overrun (by rw [hport, hwait, hw]), hport, withPort_withPort, countEvent_eq]

/-- Settles O39: the cases of the port's state and of the character, each by the rule of its branch. -/
theorem charactersAreFramed : Obligations.CharactersAreFramed := by
  unfold Obligations.CharactersAreFramed
  rintro s l port hp rfl
  have hrun (samples : BitVec 33) : exec (.characterReceived l samples) s =
      .next { s with toPanel := characterReceived l samples s.toPanel } := State.act_powered _ hp
  refine ⟨fun hdeaf samples => ?_, fun samples hstart => ?_, State.act_powered _ hp, State.act_powered _ hp,
    fun hlook hidle d => ⟨?_, ?_⟩, fun samples c hlook hstart hc hdata hbusy hlen hmore => ?_,
    fun samples hlook hstart herr hidle => ?_,
    fun samples c code rest hlook hstart hc hdata hmsg hrec hcount hlen hbad ended hended => ?_,
    fun d t hlook hbusy hgap ht => ?_⟩
  · rw [hrun, characterReceived_deaf hdeaf]
  · rw [hrun, characterReceived_false hstart]
  · rw [hrun, characterReceived_clean hlook, if_pos rfl, markCharacter_idle _ hidle]
    rfl
  · rw [hrun, characterReceived_clean hlook, if_neg Bool.false_ne_true, dataCharacter_idle _ hidle, countEvent_eq]
    rfl
  · subst hc
    rw [hrun, characterReceived_data hlook hstart hdata, dataCharacter_held, get_withPort, withPort_withPort,
      LinkPort.hold_eq _ (by exact hlen), LinkPort.receive_eq]
    · rfl
    · rw [get_withPort]
      rcases hmore with hunknown | ⟨code, rest, n, hrec, hcount, hshort⟩
      · exact .inl hunknown
      · cases hstate : (s.lnk.ports.get l).receiveState with
        | idle => exact absurd hstate hbusy
        | inUnknown => exact .inl hstate
        | inMessage =>
          refine .inr ⟨hstate, Bool.eq_false_iff.mpr fun hfull => ?_⟩
          have := (LinkPort.full_hold _ (by exact hrec) (by exact hlen) hcount).mp hfull
          omega
  · rw [hrun, characterReceived_data hlook hstart (.inr herr),
      dataCharacter_idle _ (by rw [get_withPort]; exact hidle), if_pos herr, LinkPort.receive_eq, if_pos herr]
    rfl
  · subst hc
    have hheld : ((s.lnk.ports.get l).receive (rxChar samples)).hold (rxChar samples) =
        { (s.lnk.ports.get l).receive (rxChar samples) with
          received := (s.lnk.ports.get l).received ++ [(rxChar samples).data]
          checkSum := (s.lnk.ports.get l).checkSum + (rxChar samples).data
          spoiled := (s.lnk.ports.get l).spoiled || (rxChar samples).errored, gapTimer := some 10000 } :=
      LinkPort.hold_eq _ (by show (s.lnk.ports.get l).received.length < 16; rw [hrec, List.length_cons]; omega)
    have hsum : (((s.lnk.ports.get l).receive (rxChar samples)).hold (rxChar samples)).sumsBad = true := by
      rw [sumsBad_iff, hheld]
      rcases hbad with hs | he | hc
      · exact .inl (by rw [hs, Bool.true_or])
      · exact .inl (by rw [he, Bool.or_true])
      · exact .inr hc
    have hfull : (((s.lnk.ports.get l).receive (rxChar samples)).hold (rxChar samples)).full = true :=
      (LinkPort.full_hold _ (by exact hrec)
        (by show (s.lnk.ports.get l).received.length < 16; rw [hrec, List.length_cons]; omega) hcount).mpr (le_refl _)
    have hbecomes : characterReceived l samples s.toPanel = deliverMessage l .bad (s.toPanel.withPort l ended) := by
      rw [characterReceived_data hlook hstart hdata, dataCharacter_full (by rw [get_withPort]; exact hmsg)
        (by rw [get_withPort]; exact hfull), completeMessage_bad (by rw [get_withPort, get_withPort]; exact hsum),
        get_withPort, get_withPort, withPort_withPort, withPort_withPort, hheld, LinkPort.receive_eq, hended,
        LinkPort.discard, countEvent_eq]
      rfl
    obtain ⟨hanswered, hwaits, hover⟩ := deliverMessage_bad ended (by rw [hended]) (by rw [hended])
    rw [hrun, hbecomes]
    refine ⟨fun h => ?_, fun hr hw => ?_, fun hw => ?_⟩
    · rw [hanswered h]
      rfl
    · rw [hwaits hr hw]
      rfl
    · rw [hover hw, hended]
      rfl
  · have hended : Host.Outcome.next { s with toPanel := gapTimerExpiry l s.toPanel } = .next t :=
      (State.act_powered (gapTimerExpiry l) hp).symm.trans ht
    rw [gapTimerExpiry_running hgap] at hended
    cases hended
    rw [hrun, characterReceived_clean hlook, if_pos rfl]
    rfl

end Sys2Proof.Machine
end

section
/-! PROOFS. What ends a message, a link's presence and a reply. Settles O40. -/

namespace Sys2Proof.Machine

open Sys2Proof

/-! ### Requests and their codes (R199) -/

/-- No request has a code that carries no parameter count. -/
theorem requestOf_unknown {code : Nat} (h : paramCount code = none) (params : List Byte) :
    requestOf code params = none := by
  have hcode : code = 0 ∨ 33 < code := by
    by_contra hknown
    unfold paramCount at h
    rw [if_neg hknown] at h
    exact Option.some_ne_none _ h
  rcases hcode with rfl | hlarge
  · rfl
  · obtain ⟨k, rfl⟩ := Nat.exists_eq_add_of_lt hlarge
    rw [Nat.add_right_comm, Nat.add_comm]
    rfl

theorem LinkPort.request_unknown {port : LinkPort} (h : ∀ c ∈ port.received.head?, paramCount c.toNat = none) :
    port.request = none := by
  unfold LinkPort.request
  cases hr : port.received with
  | nil => rfl
  | cons code rest => exact requestOf_unknown (h code (by rw [hr]; rfl)) _

/-! ### Presence (R182 to R184) -/

/-- What a change of the links' presence leaves of a link's reply and waiting message, of recovery and of the supply. -/
structure TalkKept (l : Link) (p q : Panel) : Prop where
  reply : (q.lnk.ports.get l).reply = (p.lnk.ports.get l).reply
  waiting : (q.lnk.ports.get l).waiting = (p.lnk.ports.get l).waiting
  recovery : q.nvs.recoveryDone = p.nvs.recoveryDone
  powered : q.powered = p.powered

theorem TalkKept.trans {l : Link} {p q r : Panel} (hq : TalkKept l p q) (hr : TalkKept l q r) : TalkKept l p r :=
  ⟨hr.reply.trans hq.reply, hr.waiting.trans hq.waiting, hr.recovery.trans hq.recovery,
    hr.powered.trans hq.powered⟩

theorem TalkKept.withPort {l : Link} {port : LinkPort} {p : Panel} (hr : port.reply = (p.lnk.ports.get l).reply)
    (hw : port.waiting = (p.lnk.ports.get l).waiting) : TalkKept l p (p.withPort l port) := by
  have hport : (p.withPort l port).lnk.ports.get l = port := get_withPort l port p
  exact ⟨by rw [hport, hr], by rw [hport, hw], rfl, rfl⟩

theorem notifyOthers_port (k : NoticeKind) (l : Link) (p : Panel) :
    (notifyOthers k l p).lnk.ports.get l = p.lnk.ports.get l :=
  PerLink.get_set_self _ _ _

theorem TalkKept.notifyOthers (k : NoticeKind) (l : Link) (p : Panel) : TalkKept l p (notifyOthers k l p) :=
  ⟨by rw [notifyOthers_port], by rw [notifyOthers_port], rfl, rfl⟩

theorem TalkKept.of_warnings {p q : Panel} (l : Link) (h : WarningsOnly p q) : TalkKept l p q := by
  have hnvs : q.nvs.recoveryDone = p.nvs.recoveryDone := by rw [h.1]
  have hpowered : q.powered = p.powered := by rw [h.1]
  rcases h.2 with hlnk | hlnk
  · exact ⟨by rw [hlnk], by rw [hlnk], hnvs, hpowered⟩
  · have hport : q.lnk.ports.get l = (p.lnk.ports.get l).notify .warnings := by
      rw [hlnk]
      exact PerLink.get_map _ _ _
    exact ⟨by rw [hport]; rfl, by rw [hport]; rfl, hnvs, hpowered⟩

/-- R183: the link is ABSENT, with the latch and the window of SERVICE. -/
theorem presenceChanged_absent {l : Link} {p : Panel} (h : (p.lnk.ports.get l).present = false) :
    presenceChanged l p = judgeWarnings (notifyOthers .links l (p.withNvs (p.nvs.linkAbsent l))) := by
  unfold presenceChanged
  dsimp only
  rw [notifyOthers_port, h, if_neg Bool.false_ne_true]
  rfl

theorem presenceChanged_present {l : Link} {p : Panel} (h : (p.lnk.ports.get l).present = true) :
    presenceChanged l p = judgeWarnings (notifyOthers .links l p) := by
  unfold presenceChanged
  dsimp only
  rw [notifyOthers_port, h, if_pos rfl]

theorem goodMessage_present {l : Link} {p : Panel} (h : (p.lnk.ports.get l).present = true) :
    goodMessage l p = p.withPort l { p.lnk.ports.get l with present := true, presenceTimer := some 2000000 } := by
  unfold goodMessage
  dsimp only
  rw [h, if_pos rfl]
  rfl

/-- R182: a good message makes its link PRESENT. -/
theorem goodMessage_absent {l : Link} {p : Panel} (h : (p.lnk.ports.get l).present = false) :
    goodMessage l p = judgeWarnings (notifyOthers .links l
      (p.withPort l { p.lnk.ports.get l with present := true, presenceTimer := some 2000000 })) := by
  have hchanged : goodMessage l p = presenceChanged l
      (p.withPort l { p.lnk.ports.get l with present := true, presenceTimer := some 2000000 }) := by
    unfold goodMessage
    dsimp only
    rw [h, if_neg Bool.false_ne_true]
    rfl
  have hport := get_withPort l { p.lnk.ports.get l with present := true, presenceTimer := some 2000000 } p
  rw [hchanged, presenceChanged_present (by rw [hport])]

theorem goodMessage_kept (l : Link) (p : Panel) : TalkKept l p (goodMessage l p) := by
  cases h : (p.lnk.ports.get l).present with
  | true =>
    rw [goodMessage_present h]
    exact TalkKept.withPort rfl rfl
  | false =>
    rw [goodMessage_absent h]
    have hwelcomed : TalkKept l p
        (p.withPort l { p.lnk.ports.get l with present := true, presenceTimer := some 2000000 }) :=
      TalkKept.withPort rfl rfl
    exact (hwelcomed.trans (TalkKept.notifyOthers _ _ _)).trans (TalkKept.of_warnings l (judgeWarnings_only _))

theorem presenceExpiry_running {l : Link} {p : Panel} (h : (p.lnk.ports.get l).presenceTimer.isSome = true) :
    presenceExpiry l p =
      presenceChanged l (p.withPort l { p.lnk.ports.get l with present := false, presenceTimer := none }) := by
  unfold presenceExpiry
  dsimp only
  rw [if_pos h]

theorem linkAbsent_eq (l : Link) (n : Nvs) :
    n.linkAbsent l = if l = .service then { n with unlockLatch := false, window := none } else n := by
  cases l <;> rfl

/-! ### The end of a message and of a reply -/

theorem endMessage_known {l : Link} {p : Panel} (h : (p.lnk.ports.get l).receiveState = .inMessage) :
    endMessage l p = p.withPort l (p.lnk.ports.get l).idle.discard := by
  unfold endMessage
  dsimp only
  rw [h]

theorem endMessage_unknown {l : Link} {p : Panel} (h : (p.lnk.ports.get l).receiveState = .inUnknown) :
    endMessage l p = completeMessage l p := by
  unfold endMessage
  dsimp only
  rw [h]

/-- R177, R182: an unknown message that sums to 0 is answered so, and its link is PRESENT. -/
theorem completeMessage_unknown {l : Link} {p : Panel} (hsum : (p.lnk.ports.get l).sumsBad = false)
    (hcode : ∀ c ∈ (p.lnk.ports.get l).received.head?, paramCount c.toNat = none)
    (hw : (p.lnk.ports.get l).waiting = none) (hr : (p.lnk.ports.get l).reply = none)
    (hd : p.nvs.recoveryDone = true) :
    completeMessage l p = startReply l .unknown [] (goodMessage l (p.withPort l (p.lnk.ports.get l).idle)) := by
  have hkept := (TalkKept.withPort (p := p) (l := l) (port := (p.lnk.ports.get l).idle) rfl rfl).trans
    (goodMessage_kept l _)
  rw [completeMessage_good hsum, LinkPort.request_unknown hcode, messageOf]
  exact deliverMessage_ready .unknown (hkept.waiting.trans hw) (hkept.reply.trans hr) (hkept.recovery.trans hd)

theorem replyEnd_free {l : Link} {p : Panel} (h : (p.lnk.ports.get l).reply.isSome = true)
    (hfree : ¬(l = .service ∧ p.lnk.restartArmed = true)) :
    replyEnd l p = takeWaiting l (p.withPort l { p.lnk.ports.get l with reply := none }) := by
  unfold replyEnd
  dsimp only
  rw [if_neg (by rw [Option.isSome_iff_ne_none] at h; simp [h]), if_neg hfree]

theorem replyEnd_armed {l : Link} {p : Panel} (h : (p.lnk.ports.get l).reply.isSome = true)
    (hl : l = .service) (harmed : p.lnk.restartArmed = true) :
    replyEnd l p = restartBegin p.pmc.strapUnits p.pmc.strapRear p := by
  unfold replyEnd restartBegin
  dsimp only
  rw [if_neg (by rw [Option.isSome_iff_ne_none] at h; simp [h]), if_pos ⟨hl, harmed⟩, if_pos harmed]

theorem takeWaiting_none {l : Link} {p : Panel} (h : (p.lnk.ports.get l).waiting = none) : takeWaiting l p = p := by
  unfold takeWaiting
  dsimp only
  rw [h]

theorem takeWaiting_some {l : Link} {p : Panel} {m : Message} (h : (p.lnk.ports.get l).waiting = some m) :
    takeWaiting l p = takeMessage l m (p.withPort l { p.lnk.ports.get l with waiting := none }) := by
  unfold takeWaiting
  dsimp only
  rw [h]

/-- Settles O40: a clause for each timer of a link. -/
theorem theLinkTimersExpire : Obligations.TheLinkTimersExpire := by
  unfold Obligations.TheLinkTimersExpire
  rintro s l port idle hp rfl rfl
  have hgapRun : (s.lnk.ports.get l).gapTimer.isSome = true →
      exec (.gapTimerExpiry l) s = .next { s with toPanel := endMessage l s.toPanel } := fun hgap => by
    rw [← gapTimerExpiry_running hgap]
    exact State.act_powered (gapTimerExpiry l) hp
  have hendRun : exec (.replyEnd l) s = .next { s with toPanel := replyEnd l s.toPanel } :=
    State.act_powered _ hp
  refine ⟨fun hgap hstate => ?_, fun hgap hstate hready => ⟨fun hbad => ?_, fun hclean hsum hcode => ?_⟩,
    fun hrunning => ?_, fun hreply hfree => ?_, fun hreply hl harmed => ?_⟩
  · rw [hgapRun hgap, endMessage_known hstate, LinkPort.discard, countEvent_eq]
    rfl
  · rw [hgapRun hgap, endMessage_unknown hstate, completeMessage_bad ((sumsBad_iff _).mpr hbad),
      (deliverMessage_bad (s.lnk.ports.get l).idle.discard rfl rfl).1 hready, LinkPort.discard, countEvent_eq]
    rfl
  · obtain ⟨-, hdone, hnone, hidle⟩ := hready
    refine ⟨goodMessage l (s.toPanel.withPort l (s.lnk.ports.get l).idle), ?_, fun hpresent => ?_, fun habsent => ?_⟩
    · rw [hgapRun hgap, endMessage_unknown hstate, completeMessage_unknown _ hcode hidle hnone hdone]
      · rfl
      · exact Bool.eq_false_iff.mpr fun hbad => by
          rcases (sumsBad_iff _).mp hbad with h | h
          · exact Bool.false_ne_true (hclean.symm.trans h)
          · exact h hsum
    · rw [goodMessage_present (by rw [get_withPort]; exact hpresent), get_withPort, withPort_withPort]
      simp only [LinkPort.idle, hpresent]
    · rw [goodMessage_absent (by rw [get_withPort]; exact habsent), get_withPort, withPort_withPort]
      exact judgeWarnings_judged _
  · refine ⟨_, State.act_powered _ hp, ?_⟩
    rw [presenceExpiry_running hrunning, presenceChanged_absent (by rw [get_withPort]), linkAbsent_eq]
    exact judgeWarnings_judged _
  · rw [hendRun, replyEnd_free hreply hfree]
    have hport := get_withPort l { s.lnk.ports.get l with reply := none } s.toPanel
    refine ⟨fun hw => ?_, fun r hw hdone => ?_, fun hw => ?_, fun hw => ?_⟩
    · rw [takeWaiting_none (by rw [hport]; exact hw)]
      rfl
    · have htaken := deliverMessage_ready (l := l)
        (p := s.toPanel.withPort l { s.lnk.ports.get l with reply := none, waiting := none }) (.good r)
        (by rw [get_withPort]) (by rw [get_withPort]) hdone
      rw [takeWaiting_some (by rw [hport]; exact hw), exec_requestCommand, submit_powered (by exact hp), hport,
        withPort_withPort]
      exact congrArg (fun q => Host.Outcome.next { s with toPanel := q }) htaken.symm
    · rw [takeWaiting_some (by rw [hport]; exact hw), hport, withPort_withPort]
      rfl
    · rw [takeWaiting_some (by rw [hport]; exact hw), hport, withPort_withPort]
      rfl
  · rw [hendRun, replyEnd_armed hreply hl harmed]
    exact (State.act_powered _ hp).symm

end Sys2Proof.Machine
end

section
/-! PROOFS. A request's message, received character by character. Settles O38. -/

namespace Sys2Proof.Machine

open Sys2Proof

/-- A port that has received some characters of a known message, unspoiled (R176). -/
def LinkPort.receiving (cs : List Byte) (port : LinkPort) : LinkPort :=
  { port with
    receiveState := .inMessage, received := cs, checkSum := charSum cs, spoiled := false, gapTimer := some 10000 }

/-- A port that looks for a start, with no message in progress. -/
structure LinkPort.Vacant (port : LinkPort) : Prop where
  looking : port.looking = true
  state : port.receiveState = .idle
  received : port.received = []
  sum : port.checkSum = 0
  spoiled : port.spoiled = false
  gap : port.gapTimer = none

theorem LinkPort.Vacant.idle_eq {port : LinkPort} (h : port.Vacant) : port.idle = port := by
  obtain ⟨-, hstate, hreceived, hsum, hspoiled, hgap⟩ := h
  cases port
  cases hstate
  cases hreceived
  cases hsum
  cases hspoiled
  cases hgap
  rfl

theorem LinkPort.receiving_idle (cs : List Byte) (port : LinkPort) : (port.receiving cs).idle = port.idle := rfl

theorem LinkPort.receiving_hold {cs : List Byte} (h : cs.length < 16) (d : Byte) (port : LinkPort) :
    (port.receiving cs).hold ⟨d, false, false, false⟩ = port.receiving (cs ++ [d]) := by
  have hsum : charSum (cs ++ [d]) = charSum cs + d := by
    rw [charSum_append]
    exact congrArg (charSum cs + ·) (BitVec.add_zero d)
  rw [LinkPort.hold_eq _ (by exact h)]
  exact congrArg (fun v => { port with
    receiveState := .inMessage, received := cs ++ [d], checkSum := v, spoiled := false, gapTimer := some 10000 })
    hsum.symm

/-- A message's characters in progress: the code and some of its parameters. -/
theorem LinkPort.full_receiving {code : Byte} {rest : List Byte} {n : Nat} (port : LinkPort)
    (hn : paramCount code.toNat = some n) : (port.receiving (code :: rest)).full = true ↔ n + 1 ≤ rest.length :=
  LinkPort.full_iff rfl hn

theorem paramCount_le {code n : Nat} (h : paramCount code = some n) : n ≤ 13 := by
  unfold paramCount at h
  split at h
  · cases h
  · split at h
    all_goals cases h
    all_goals decide

/-- R175, R176: the mark character of a known code begins a message. -/
theorem receive_code {l : Link} {port : LinkPort} {p : Panel} {code : Byte} {n : Nat} (hp : p.lnk.ports.get l = port)
    (hvacant : port.Vacant) (hn : paramCount code.toNat = some n) :
    characterReceived l (cleanCharacter code true) p = p.withPort l (port.receiving [code]) := by
  have hbegun : port.begin code = port.receiving [code] := by
    rw [LinkPort.begin_begin, hn, LinkPort.receiving]
    exact congrArg (fun v => { port with
      receiveState := .inMessage, received := [code], checkSum := v, spoiled := false, gapTimer := some 10000 })
      (BitVec.add_zero code).symm
  subst hp
  rw [characterReceived_clean hvacant.looking, if_pos rfl, markCharacter_idle _ hvacant.state, hbegun]

/-- R176: a parameter character joins the message. -/
theorem receive_param {l : Link} {port : LinkPort} {code d : Byte} {rest : List Byte} {n : Nat} (p : Panel)
    (hlook : port.looking = true) (hn : paramCount code.toNat = some n) (hrest : rest.length < n) :
    characterReceived l (cleanCharacter d false) (p.withPort l (port.receiving (code :: rest))) =
      p.withPort l (port.receiving (code :: (rest ++ [d]))) := by
  have hport := get_withPort l (port.receiving (code :: rest)) p
  have hmax := paramCount_le hn
  have hheld : (port.receiving (code :: rest)).hold ⟨d, false, false, false⟩ =
      port.receiving (code :: (rest ++ [d])) :=
    LinkPort.receiving_hold (by rw [List.length_cons]; omega) d port
  rw [characterReceived_clean (by rw [hport]; exact hlook), if_neg Bool.false_ne_true, dataCharacter_held, hport,
    withPort_withPort, hheld]
  rw [hport]
  refine .inr ⟨rfl, Bool.eq_false_iff.mpr fun hfull => ?_⟩
  rw [hheld, LinkPort.full_receiving port hn, List.length_append, List.length_singleton] at hfull
  omega

/-- R177: the check character of an unspoiled message that sums to 0 completes it. -/
theorem receive_check {l : Link} {port : LinkPort} {code d : Byte} {params : List Byte} {r : Request} (p : Panel)
    (hlook : port.looking = true) (hn : paramCount code.toNat = some params.length)
    (hsum : charSum (code :: (params ++ [d])) = 0) (hr : requestOf code.toNat params = some r) :
    characterReceived l (cleanCharacter d false) (p.withPort l (port.receiving (code :: params))) =
      deliverMessage l (.good r) (goodMessage l (p.withPort l port.idle)) := by
  have hport := get_withPort l (port.receiving (code :: params)) p
  have hmax := paramCount_le hn
  have hheld : (port.receiving (code :: params)).hold ⟨d, false, false, false⟩ =
      port.receiving (code :: (params ++ [d])) :=
    LinkPort.receiving_hold (by rw [List.length_cons]; omega) d port
  have hfull : (port.receiving (code :: (params ++ [d]))).full = true :=
    (LinkPort.full_receiving port hn).mpr (by rw [List.length_append, List.length_singleton])
  have hgood : (port.receiving (code :: (params ++ [d]))).sumsBad = false := by
    rw [Bool.eq_false_iff, ne_eq, sumsBad_iff]
    rintro (h | h)
    · exact Bool.false_ne_true h
    · exact h hsum
  have hrequest : (port.receiving (code :: (params ++ [d]))).request = some r := by
    show requestOf code.toNat (params ++ [d]).dropLast = some r
    rw [List.dropLast_concat, hr]
  rw [characterReceived_clean (by rw [hport]; exact hlook), if_neg Bool.false_ne_true,
    dataCharacter_full (by rw [hport]; rfl) (by rw [hport, hheld]; exact hfull), hport, hheld, withPort_withPort,
    completeMessage_good (by rw [get_withPort]; exact hgood), get_withPort, hrequest, withPort_withPort,
    LinkPort.receiving_idle]
  rfl

theorem runCommands_append (ys : List Instr) : ∀ (xs : List Instr) {s t : State}, runCommands xs s = .next t →
    runCommands (xs ++ ys) s = runCommands ys t
  | [], s, t, h => by
    cases h
    rfl
  | c :: xs, s, t, h => by
    rw [List.cons_append, runCommands]
    rw [runCommands] at h
    cases hc : exec c s with
    | next u =>
      rw [hc] at h
      exact runCommands_append ys xs h
    | fault f => rw [hc] at h; cases h
    | refused f => rw [hc] at h; cases h

theorem runCommands_single (c : Instr) (s : State) : runCommands [c] s = exec c s := by
  rw [runCommands]
  cases exec c s <;> rfl

/-- The parameter characters, one after another, by induction on them. -/
theorem receive_params {l : Link} {port : LinkPort} {code : Byte} {n : Nat} {s : State} (hp : s.powered = true)
    (hlook : port.looking = true) (hn : paramCount code.toNat = some n) : ∀ (ds rest : List Byte),
    rest.length + ds.length ≤ n →
    runCommands (ds.map fun d => .characterReceived l (cleanCharacter d false))
        (s.withPort l (port.receiving (code :: rest))) =
      .next (s.withPort l (port.receiving (code :: (rest ++ ds))))
  | [], rest, _ => by
    rw [List.append_nil]
    rfl
  | d :: ds, rest, h => by
    rw [List.length_cons] at h
    have hd : exec (.characterReceived l (cleanCharacter d false)) (s.withPort l (port.receiving (code :: rest))) =
        .next (s.withPort l (port.receiving (code :: (rest ++ [d])))) := by
      refine (State.act_powered _ (by exact hp)).trans ?_
      have hone := receive_param (l := l) (d := d) s.toPanel hlook hn (rest := rest) (by omega)
      exact congrArg (fun q => Host.Outcome.next { s with toPanel := q }) hone
    have hds := receive_params (l := l) hp hlook hn ds (rest ++ [d]) (by
      rw [List.length_append, List.length_singleton]
      omega)
    rw [List.map_cons, runCommands, hd]
    rw [List.append_assoc, List.singleton_append] at hds
    exact hds

theorem toNat_requestCode (r : Request) : (BitVec.ofNat 8 (requestCode r)).toNat = requestCode r := by
  cases r <;> rfl

/-- R175 to R182: a request's whole message comes to the request, once its link is PRESENT. -/
theorem receive_message {l : Link} {r : Request} {s : State} {port : LinkPort} (hp : s.powered = true)
    (hport : s.lnk.ports.get l = port) (hvacant : port.Vacant) :
    runCommands (receiveCommands l (messageChars r)) s =
      exec (requestCommand l r) { s with toPanel := goodMessage l s.toPanel } := by
  have hn : paramCount (BitVec.ofNat 8 (requestCode r)).toNat = some (requestParams r).length := by
    rw [toNat_requestCode, paramCount_requestCode]
  have hr : requestOf (BitVec.ofNat 8 (requestCode r)).toNat (requestParams r) = some r := by
    rw [toNat_requestCode, requestOf_requestCode]
  have hcode : exec (.characterReceived l (cleanCharacter (BitVec.ofNat 8 (requestCode r)) true)) s =
      .next (s.withPort l (port.receiving [BitVec.ofNat 8 (requestCode r)])) := by
    refine (State.act_powered _ hp).trans ?_
    exact congrArg (fun q => Host.Outcome.next { s with toPanel := q }) (receive_code hport hvacant hn)
  have hparams := receive_params hp hvacant.looking hn (l := l) (requestParams r) [] (by
    rw [List.length_nil, Nat.zero_add])
  have hcheck := receive_check (l := l) s.toPanel hvacant.looking hn
    (charSum_checked (BitVec.ofNat 8 (requestCode r) :: requestParams r)) hr
  have hkept : s.toPanel.withPort l port.idle = s.toPanel := by
    rw [hvacant.idle_eq, ← hport, withPort_get]
  rw [hkept] at hcheck
  have hlast : exec (.characterReceived l (cleanCharacter (-(charSum (BitVec.ofNat 8 (requestCode r) ::
      requestParams r))) false)) (s.withPort l (port.receiving (BitVec.ofNat 8 (requestCode r) :: requestParams r))) =
      exec (requestCommand l r) { s with toPanel := goodMessage l s.toPanel } := by
    have hpowered : (goodMessage l s.toPanel).powered = true :=
      (goodMessage_kept l s.toPanel).powered.trans hp
    rw [exec_requestCommand, submit_powered hpowered]
    refine (State.act_powered _ (by exact hp)).trans ?_
    exact congrArg (fun q => Host.Outcome.next { s with toPanel := q }) hcheck
  rw [messageChars, List.cons_append, receiveCommands, List.map_append, runCommands, hcode]
  exact (runCommands_append _ _ hparams).trans ((runCommands_single _ _).trans hlast)

/-- Settles O38. -/
theorem aReceivedMessageIsTaken : Obligations.AReceivedMessageIsTaken := by
  unfold Obligations.AReceivedMessageIsTaken
  rintro l r s port hready rfl hlook hstate hreceived hsum hspoiled hgap
  have htaken := receive_message (r := r) hready.1 rfl ⟨hlook, hstate, hreceived, hsum, hspoiled, hgap⟩
  refine ⟨fun hpresent => ?_, fun habsent => ⟨goodMessage l s.toPanel, htaken, ?_⟩⟩
  · have hstands : goodMessage l s.toPanel =
        s.toPanel.withPort l { s.lnk.ports.get l with presenceTimer := some 2000000 } := by
      rw [goodMessage_present hpresent]
      simp only [hpresent]
    rw [htaken, hstands]
    rfl
  · rw [goodMessage_absent habsent]
    exact judgeWarnings_judged _

end Sys2Proof.Machine
end

section
/-! PROOFS. What every mode entry does: its mode, its notice, the switch counts, and the records that it leaves. -/

namespace Sys2Proof.Machine

open Sys2Proof

/-! ### Notices stand -/

/-- No notice is taken back. -/
structure NoticesKept (p q : Panel) : Prop where
  noticed : ∀ k l, Noticed k l p → Noticed k l q

theorem NoticesKept.of_lnk {p q : Panel} (h : q.lnk = p.lnk) : NoticesKept p q :=
  ⟨fun k l hp => by
    rw [Noticed, h]
    exact hp⟩

theorem NoticesKept.refl (p : Panel) : NoticesKept p p := .of_lnk rfl

theorem NoticesKept.after {p q r : Panel} (k : NoticesKept q r) (h : NoticesKept p q) : NoticesKept p r :=
  ⟨fun n l hp => k.noticed n l (h.noticed n l hp)⟩

theorem NoticesKept.ite {c : Prop} [Decidable c] {p q r : Panel} (h : c → NoticesKept p q)
    (k : ¬c → NoticesKept p r) : NoticesKept p (if c then q else r) := by
  split
  · exact h ‹_›
  · exact k ‹_›

theorem NoticesKept.notifyAll (k : NoticeKind) (p : Panel) : NoticesKept p (notifyAll k p) :=
  ⟨fun _ _ hp => hp.notifyAll k⟩

theorem NoticesKept.notifyLink (k : NoticeKind) (l : Link) (p : Panel) : NoticesKept p (notifyLink k l p) := by
  refine ⟨fun n m hp => ?_⟩
  by_cases hm : m = l
  · subst hm
    have hport : (Machine.notifyLink k m p).lnk.ports.get m = (p.lnk.ports.get m).notify k := PerLink.get_set_self ..
    rw [Noticed, hport]
    exact noticed_of_or hp
  · have hport : (Machine.notifyLink k l p).lnk.ports.get m = p.lnk.ports.get m := PerLink.get_set_ne _ _ hm
    rw [Noticed, hport]
    exact hp

theorem WarningsOnly.noticesKept {p q : Panel} (h : WarningsOnly p q) : NoticesKept p q :=
  ⟨fun _ _ hp => h.noticed hp⟩

theorem QueueOnly.noticesKept {p q : Panel} (h : QueueOnly p q) : NoticesKept p q := by
  rcases h.2 with hlnk | hlnk
  · exact .of_lnk hlnk
  · exact (NoticesKept.of_lnk hlnk).after (.notifyLink .store .service p)

theorem judgeWarnings_noticesKept (p : Panel) : NoticesKept p (judgeWarnings p) := (judgeWarnings_only p).noticesKept

theorem evaluate_noticesKept (p : Panel) : NoticesKept p (evaluate p) := ⟨fun _ _ hp => hp.evaluate⟩

theorem queueUrgent_noticesKept (d : JobData) (p : Panel) : NoticesKept p (queueUrgent d p) :=
  (queueUrgent_only d p).noticesKept

theorem judgeFaultIndication_noticesKept (p : Panel) : NoticesKept p (judgeFaultIndication p) :=
  (NoticesKept.after (judgeFaultIndication_reach p).1.noticesKept (.of_lnk (by
    rw [Panel.withFaults]
    split <;> rfl)))

theorem startAutomatic_noticesKept (p : Panel) : NoticesKept p (startAutomatic p) :=
  (NoticesKept.notifyAll .check _).after ((judgeFaultIndication_noticesKept (checkBegun .auto p)).after (.of_lnk rfl))

theorem abortCheck_noticesKept (p : Panel) : NoticesKept p (abortCheck p) := by
  unfold abortCheck
  refine .ite (fun _ => (NoticesKept.notifyAll .check _).after (.of_lnk ?_)) fun _ => .refl p
  cases p.chk.currentItem with
  | none => rfl
  | some i => cases i <;> rfl

theorem setMode_noticesKept (m : Mode) (p : Panel) : NoticesKept p (setMode m p) :=
  (NoticesKept.notifyAll .mode _).after (.of_lnk rfl)

theorem restartPresence_noticesKept (p : Panel) : NoticesKept p (Panel.onPorts LinkPort.restartPresence p) := by
  refine ⟨fun k l hp => ?_⟩
  have hport : ((Panel.onPorts LinkPort.restartPresence p).lnk.ports.get l).noticeSet =
      (p.lnk.ports.get l).noticeSet := by
    show ((PerLink.map LinkPort.restartPresence p.lnk.ports).get l).noticeSet = _
    rw [PerLink.get_map, LinkPort.restartPresence]
    split <;> rfl
  rw [Noticed, hport]
  exact hp

/-! ### What no switch sample changes -/

/-- The odometer, the trip records, the clock, the cells and the pulse capture unit stand. -/
structure RecordsKept (p q : Panel) : Prop where
  odometer : q.dfa.odometer = p.dfa.odometer
  trips : q.trc.trips = p.trc.trips
  timeOfDay : q.svm.timeOfDay = p.svm.timeOfDay
  cells : q.nvs.cells = p.nvs.cells
  pcu : q.pcu = p.pcu

theorem RecordsKept.refl (p : Panel) : RecordsKept p p := ⟨rfl, rfl, rfl, rfl, rfl⟩

theorem RecordsKept.after {p q r : Panel} (k : RecordsKept q r) (h : RecordsKept p q) : RecordsKept p r :=
  ⟨k.odometer.trans h.odometer, k.trips.trans h.trips, k.timeOfDay.trans h.timeOfDay, k.cells.trans h.cells,
    k.pcu.trans h.pcu⟩

theorem RecordsKept.of_blocks {p q : Panel} (hdfa : q.dfa = p.dfa) (htrc : q.trc = p.trc) (hsvm : q.svm = p.svm)
    (hnvs : q.nvs = p.nvs) (hpcu : q.pcu = p.pcu) : RecordsKept p q :=
  ⟨by rw [hdfa], by rw [htrc], by rw [hsvm], by rw [hnvs], hpcu⟩

theorem WarningsOnly.recordsKept {p q : Panel} (h : WarningsOnly p q) : RecordsKept p q := by
  rw [h.1]
  exact .of_blocks rfl rfl rfl rfl rfl

/-! ### The mode entries -/

/-- What each mode entry does. -/
structure ModeEntered (m : Mode) (p q : Panel) : Prop where
  mode : q.pmc.mode = m
  supply : q.pmc.supplyLow = p.pmc.supplyLow
  noticed : ∀ l, Noticed .mode l q
  sws : q.sws = p.sws.modeChange m
  notices : NoticesKept p q
  records : RecordsKept p q

theorem setMode_noticed (m : Mode) (p : Panel) (l : Link) : Noticed .mode l (setMode m p) := notifyAll_noticed .mode l _

theorem onWrc_noticesKept (f : Wrc → Wrc) (p : Panel) : NoticesKept p (p.onWrc f) := .of_lnk rfl
theorem onDfa_noticesKept (f : Dfa → Dfa) (p : Panel) : NoticesKept p (p.onDfa f) := .of_lnk rfl
theorem onNvs_noticesKept (f : Nvs → Nvs) (p : Panel) : NoticesKept p (p.onNvs f) := .of_lnk rfl
theorem gaugesEnterShutdown_noticesKept (p : Panel) : NoticesKept p (gaugesEnterShutdown p) := .of_lnk rfl

theorem beforeRun_noticesKept (p : Panel) : NoticesKept (setMode .run (Panel.onPmc Pmc.enterRun p)) (beforeRun p) :=
  .of_lnk rfl

theorem afterRun_noticesKept (p : Panel) : NoticesKept (beforeRun p) (enterRun p) := by
  rw [enterRun_eq_beforeRun]
  exact (restartPresence_noticesKept _).after ((startAutomatic_noticesKept _).after
    ((evaluate_noticesKept _).after (judgeWarnings_noticesKept _)))

theorem evaluate_timeOfDay (p : Panel) : (evaluate p).svm.timeOfDay = p.svm.timeOfDay := by
  obtain ⟨q, hq, hjudged⟩ := evaluate_reach p
  have hqs : q.svm.timeOfDay = p.svm.timeOfDay := by rcases hq with rfl | rfl | rfl <;> rfl
  rcases hjudged with rfl | hjudged
  · exact hqs
  · rw [hjudged.1.recordsKept.timeOfDay, hqs]

/-- R194. -/
theorem enterRun_entered (p : Panel) : ModeEntered .run p (enterRun p) := by
  have hafter := afterJudgedRun_reaches (beforeRun p)
  rw [← enterRun_eq_beforeRun] at hafter
  have htime : (enterRun p).svm.timeOfDay = p.svm.timeOfDay := by
    rw [enterRun_eq_beforeRun]
    have hstart := (onPorts_reaches LinkPort.restartPresence _).after (ds := [.chk, .wrc, .lnk])
      (startAutomatic_reaches (evaluate (judgeWarnings (beforeRun p))))
    rw [hstart.svm, evaluate_timeOfDay, (judgeWarnings_reaches _).svm]
    rfl
  have hkept := (afterRun_noticesKept p).after (beforeRun_noticesKept p)
  refine ⟨by rw [hafter.pmc]; rfl, by rw [hafter.pmc]; rfl, fun l => hkept.noticed _ _ (setMode_noticed _ _ l),
    by rw [hafter.sws]; rfl, hkept.after ((setMode_noticesKept _ _).after (.of_lnk rfl)), ?_⟩
  have hall := enterRun_reaches p
  exact ⟨by rw [hafter.dfa]; rfl, by rw [hafter.trc]; rfl, htime, by rw [hall.nvs], hall.pcu⟩

theorem afterShutdown_noticesKept (p : Panel) : NoticesKept (beforeSnapshot p) (enterShutdown p) := by
  have htenths : ∀ q, NoticesKept q (queueTenths q) := fun q =>
    .ite (fun _ => .refl q) fun _ => queueUrgent_noticesKept _ q
  have hbefore : NoticesKept (beforeSnapshot p) (beforeShutdown p) :=
    (onWrc_noticesKept _ _).after ((gaugesEnterShutdown_noticesKept _).after ((htenths _).after
      ((onDfa_noticesKept _ _).after (queueUrgent_noticesKept _ _))))
  rw [enterShutdown_eq_beforeShutdown]
  exact (onNvs_noticesKept _ _).after ((abortCheck_noticesKept _).after
    ((judgeWarnings_noticesKept _).after hbefore))

/-- What SHUTDOWN entry does after the mode is set. -/
theorem afterSnapshot_reaches (p : Panel) :
    Reaches [.dfa, .gdr, .wrc, .chk, .nvs, .lnk] (beforeSnapshot p) (enterShutdown p) :=
  (afterJudgedShutdown_reaches (beforeShutdown p)).after (bs := [.dfa, .gdr, .wrc, .nvs, .lnk])
    ((onWrc_reaches _ _).after ((gaugesEnterShutdown_reaches _).after (ds := [.dfa, .gdr, .nvs, .lnk])
      ((queueTenths_reaches _).after (ds := [.dfa, .nvs, .lnk])
        ((onDfa_reaches _ _).after (ds := [.dfa, .nvs, .lnk]) (queueUrgent_reaches _ _)))))

theorem enterShutdown_dfa (p : Panel) : (enterShutdown p).dfa = { p.dfa with fuelSampleTimer := none } := by
  have hafter := (afterJudgedShutdown_reaches (beforeShutdown p))
  have htenths := (onWrc_reaches Wrc.enterShutdown _).after (ds := [.gdr, .wrc, .nvs, .lnk])
    ((gaugesEnterShutdown_reaches _).after (ds := [.gdr, .nvs, .lnk])
      (queueTenths_reaches (Panel.onDfa (Dfa.setSampleTimer none) (queueSnapshot (beforeSnapshot p)))))
  have hstage : (beforeShutdown p).dfa = Dfa.setSampleTimer none (queueSnapshot (beforeSnapshot p)).dfa := htenths.dfa
  rw [enterShutdown_eq_beforeShutdown, hafter.dfa, hstage]
  exact congrArg (Dfa.setSampleTimer none) (queueUrgent_reaches _ (beforeSnapshot p)).dfa

/-- R193. -/
theorem enterShutdown_entered (p : Panel) : ModeEntered .shutdown p (enterShutdown p) := by
  have hafter := afterSnapshot_reaches p
  have hkept := (afterShutdown_noticesKept p).after
    (NoticesKept.of_lnk (p := setMode .shutdown (Panel.onPmc Pmc.enterShutdown p)) rfl)
  refine ⟨by rw [hafter.pmc]; rfl, by rw [hafter.pmc]; rfl, fun l => hkept.noticed _ _ (setMode_noticed _ _ l),
    by rw [hafter.sws]; rfl, hkept.after ((setMode_noticesKept _ _).after (.of_lnk rfl)), ?_⟩
  exact ⟨by rw [enterShutdown_dfa], by rw [hafter.trc]; rfl, by rw [hafter.svm]; rfl, (enterShutdown_cells p).cells,
    by rw [hafter.pcu]; rfl⟩

/-- R195. -/
theorem enterStandby_entered (p : Panel) : ModeEntered .standby p (enterStandby p) := by
  have hjudged := judgeWarnings_only (gaugesEnterStandby (Panel.onAdc Adc.enterStandby
    (Panel.onSws (Sws.modeChange .standby) (setMode .standby p))))
  rw [← enterStandby_eq] at hjudged
  have hreach := hjudged.reaches
  have hkept := hjudged.noticesKept.after (NoticesKept.of_lnk (p := setMode .standby p) rfl)
  exact ⟨by rw [hreach.pmc]; rfl, by rw [hreach.pmc]; rfl, fun l => hkept.noticed _ _ (setMode_noticed _ _ l),
    by rw [hreach.sws]; rfl, hkept.after (setMode_noticesKept _ _), hjudged.recordsKept.after
      (.of_blocks rfl rfl rfl rfl rfl)⟩

end Sys2Proof.Machine
end

section
/-! PROOFS. The switch sample. Settles O19 and O20. -/

namespace Sys2Proof.Machine

open Sys2Proof

/-! ### One input's sample (R13) -/

theorem requiredSamples_eq (m : Mode) : requiredSamples m = if m = .standby then 2 else 4 := by cases m <;> rfl

theorem levelOf_ne_unsettled (active : Bool) : levelOf active ≠ .unsettled := by cases active <;> decide

/-- The count of an input that has no accepted level yet, with one more sample. -/
def SwitchState.settlingCount (active : Bool) (x : SwitchState) : Nat :=
  if 0 < x.count ∧ x.lastActive = active then x.count + 1 else 1

theorem sample_unsettled {n : Nat} {active : Bool} {x : SwitchState} (h : x.accepted = .unsettled) :
    x.sample n active = if n ≤ x.settlingCount active then (⟨levelOf active, 0, active⟩, .settled)
      else (⟨.unsettled, x.settlingCount active, active⟩, .nothing) := if_pos h

theorem sample_same {n : Nat} {active : Bool} {x : SwitchState} (h : x.accepted = levelOf active) :
    x.sample n active = (⟨x.accepted, 0, active⟩, .nothing) :=
  (if_neg fun hu => levelOf_ne_unsettled active (h.symm.trans hu)).trans (if_pos h)

theorem sample_differing {n : Nat} {active : Bool} {x : SwitchState} (hu : x.accepted ≠ .unsettled)
    (h : x.accepted ≠ levelOf active) : x.sample n active =
      if n ≤ x.count + 1 then (⟨levelOf active, 0, active⟩, .changed)
      else (⟨x.accepted, x.count + 1, active⟩, .nothing) :=
  (if_neg hu).trans (if_neg h)

theorem sample_lastActive (n : Nat) (active : Bool) (x : SwitchState) : (x.sample n active).1.lastActive = active := by
  by_cases hu : x.accepted = .unsettled
  · rw [sample_unsettled hu]
    split <;> rfl
  · by_cases h : x.accepted = levelOf active
    · rw [sample_same h]
    · rw [sample_differing hu h]
      split <;> rfl

/-! ### The deliveries (R13, R14, R191 to R194) -/

/-- What the delivery of sampled levels leaves: the levels, the records, the seen sets and the notices. -/
structure Delivered (p q : Panel) : Prop where
  accepted : ∀ i, (q.sws.inputs.get i).accepted = (p.sws.inputs.get i).accepted
  lastActive : ∀ i, (q.sws.inputs.get i).lastActive = (p.sws.inputs.get i).lastActive
  seen : ∀ l k, (p.sws.seen.get l).getLsbD k = true → (q.sws.seen.get l).getLsbD k = true
  records : RecordsKept p q
  notices : NoticesKept p q

theorem Delivered.refl (p : Panel) : Delivered p p := ⟨fun _ => rfl, fun _ => rfl, fun _ _ => id, .refl p, .refl p⟩

theorem Delivered.after {p q r : Panel} (k : Delivered q r) (h : Delivered p q) : Delivered p r :=
  ⟨fun i => (k.accepted i).trans (h.accepted i), fun i => (k.lastActive i).trans (h.lastActive i),
    fun l j hs => k.seen l j (h.seen l j hs), k.records.after h.records, k.notices.after h.notices⟩

theorem WarningsOnly.delivered {p q : Panel} (h : WarningsOnly p q) : Delivered p q :=
  have hsws : q.sws = p.sws := by rw [h.1]
  ⟨fun i => by rw [hsws], fun i => by rw [hsws], fun l k hs => by rw [hsws]; exact hs, h.recordsKept, h.noticesKept⟩

theorem ModeEntered.delivered {m : Mode} {p q : Panel} (h : ModeEntered m p q) : Delivered p q := by
  have hget : ∀ i, q.sws.inputs.get i = { p.sws.inputs.get i with count := 0 } := fun i => by
    rw [h.sws]
    exact PerSwitch.get_map _ _ _
  refine ⟨fun i => by rw [hget], fun i => by rw [hget], fun l k hs => ?_, h.records, h.notices⟩
  rw [h.sws]
  exact hs

/-- Nothing, or one mode entry, which returns the counts to 0. -/
structure ModeJudged (p q : Panel) : Prop where
  delivered : Delivered p q
  judged : (q.pmc.mode = p.pmc.mode ∧ q.sws.inputs = p.sws.inputs) ∨
    (q.pmc.mode ≠ p.pmc.mode ∧ ∀ i, (q.sws.inputs.get i).count = 0)

theorem ModeEntered.modeJudged {m : Mode} {p q : Panel} (h : ModeEntered m p q) (hm : p.pmc.mode ≠ m) :
    ModeJudged p q := by
  refine ⟨h.delivered, .inr ⟨fun hq => hm (hq.symm.trans h.mode), fun i => ?_⟩⟩
  rw [h.sws]
  exact congrArg SwitchState.count (PerSwitch.get_map _ _ _)

theorem ModeJudged.refl (p : Panel) : ModeJudged p p := ⟨.refl p, .inl ⟨rfl, rfl⟩⟩

theorem takeIgnition_of_startup {p : Panel} (h : p.pmc.mode = .startup) : takeIgnition p = leaveStartup p := by
  rw [takeIgnition, h]

theorem takeIgnition_of_run {p : Panel} (h : p.pmc.mode = .run) :
    takeIgnition p = if inputActive p .ignOn then p else enterShutdown p := by
  rw [takeIgnition, h]

theorem takeIgnition_of_off {p : Panel} (h : p.pmc.mode = .shutdown ∨ p.pmc.mode = .standby) :
    takeIgnition p = if inputActive p .ignOn && !p.pmc.supplyLow then enterRun p else p := by
  rcases h with h | h <;> rw [takeIgnition, h]

theorem takeIgnition_judged (p : Panel) : ModeJudged p (takeIgnition p) := by
  have hrun : p.pmc.mode ≠ .run → ModeJudged p (enterRun p) := (enterRun_entered p).modeJudged
  cases hmode : p.pmc.mode with
  | startup =>
    rw [takeIgnition_of_startup hmode, leaveStartup]
    split
    · split
      · exact hrun (by rw [hmode]; decide)
      · exact (enterStandby_entered p).modeJudged (by rw [hmode]; decide)
    · exact .refl p
  | run =>
    rw [takeIgnition_of_run hmode]
    split
    · exact .refl p
    · exact (enterShutdown_entered p).modeJudged (by rw [hmode]; decide)
  | shutdown =>
    rw [takeIgnition_of_off (.inl hmode)]
    split
    · exact hrun (by rw [hmode]; decide)
    · exact .refl p
  | standby =>
    rw [takeIgnition_of_off (.inr hmode)]
    split
    · exact hrun (by rw [hmode]; decide)
    · exact .refl p

/-- The change of a level is known to every link before anything else is judged on it (R14). -/
def levelSeen (i : SwitchInput) (p : Panel) : Panel := notifyAll .inputs (p.withSws (p.sws.markSeen i))

theorem levelSeen_seen (i : SwitchInput) (p : Panel) (l : Link) (k : Nat) :
    ((levelSeen i p).sws.seen.get l).getLsbD k = ((p.sws.seen.get l).getLsbD k || i.bit.getLsbD k) := by
  have hset : (levelSeen i p).sws.seen.get l = p.sws.seen.get l ||| i.bit := PerLink.get_map _ _ _
  rw [hset, BitVec.getLsbD_or]

theorem levelSeen_delivered (i : SwitchInput) (p : Panel) : Delivered p (levelSeen i p) := by
  refine ⟨fun _ => rfl, fun _ => rfl, fun l k hs => ?_, .of_blocks rfl rfl rfl rfl rfl,
    (NoticesKept.notifyAll .inputs _).after (.of_lnk rfl)⟩
  rw [levelSeen_seen, hs, Bool.true_or]

theorem bit_idx (i : SwitchInput) : i.bit.getLsbD i.idx = true := by cases i <;> decide

/-- A change is in every seen set and its notice posted (R14). -/
def LevelKnown (i : SwitchInput) (p : Panel) : Prop :=
  ∀ l, (p.sws.seen.get l).getLsbD i.idx = true ∧ Noticed .inputs l p

theorem LevelKnown.delivered {i : SwitchInput} {p q : Panel} (h : LevelKnown i p) (k : Delivered p q) :
    LevelKnown i q := fun l => ⟨k.seen l _ (h l).1, k.notices.noticed _ _ (h l).2⟩

theorem levelSeen_known (i : SwitchInput) (p : Panel) : LevelKnown i (levelSeen i p) := fun l =>
  ⟨by rw [levelSeen_seen, bit_idx, Bool.or_true], notifyAll_noticed .inputs l _⟩

theorem deliverLevel_ignition (pressed : Bool) (p : Panel) : deliverLevel .ignOn pressed p = takeIgnition p := rfl

/-- A level other than ignition's brings at most a warning. -/
theorem deliverLevel_other {i : SwitchInput} (h : i ≠ .ignOn) (pressed : Bool) (p : Panel) :
    deliverLevel i pressed p = p ∨ WarningsOnly p (deliverLevel i pressed p) := by
  cases i
  case ignOn => exact absurd rfl h
  case rearCall =>
    unfold deliverLevel
    dsimp only
    split
    · exact .inr (raiseEvent_only _ p)
    · exact .inl rfl
  all_goals exact .inl rfl

theorem deliverLevel_judged (i : SwitchInput) (pressed : Bool) (p : Panel) :
    ModeJudged p (deliverLevel i pressed p) := by
  by_cases h : i = .ignOn
  · subst h
    exact takeIgnition_judged p
  · rcases deliverLevel_other h pressed p with heq | honly
    · rw [heq]
      exact .refl p
    · exact ⟨honly.delivered, .inl ⟨by rw [honly.1], by rw [honly.1]⟩⟩

theorem deliverSample_nothing (p : Panel) (i : SwitchInput) : deliverSample p (i, .nothing) = p := rfl

theorem deliverSample_settled (p : Panel) (i : SwitchInput) :
    deliverSample p (i, .settled) = deliverLevel i false (judgeWarnings p) := rfl

theorem deliverSample_changed (p : Panel) (i : SwitchInput) :
    deliverSample p (i, .changed) = deliverLevel i true (judgeWarnings (levelSeen i p)) := rfl

theorem ModeJudged.after_still {p q r : Panel} (k : ModeJudged q r) (h : Delivered p q)
    (hmode : q.pmc.mode = p.pmc.mode) (hinputs : q.sws.inputs = p.sws.inputs) : ModeJudged p r := by
  refine ⟨k.delivered.after h, ?_⟩
  rw [← hmode, ← hinputs]
  exact k.judged

theorem deliverSample_judged (p : Panel) (e : SwitchInput × SampleEvent) : ModeJudged p (deliverSample p e) := by
  obtain ⟨i, ev⟩ := e
  cases ev with
  | nothing => exact .refl p
  | settled =>
    have honly := judgeWarnings_only p
    rw [deliverSample_settled]
    exact (deliverLevel_judged i false _).after_still honly.delivered (by rw [honly.1]) (by rw [honly.1])
  | changed =>
    have honly := judgeWarnings_only (levelSeen i p)
    rw [deliverSample_changed]
    exact (deliverLevel_judged i true _).after_still (honly.delivered.after (levelSeen_delivered i p))
      (by rw [honly.1]; rfl) (by rw [honly.1]; rfl)

theorem deliverSample_known (p : Panel) (i : SwitchInput) : LevelKnown i (deliverSample p (i, .changed)) :=
  (levelSeen_known i p).delivered ((deliverLevel_judged i true _).delivered.after (judgeWarnings_only _).delivered)

/-- Only ignition changes the mode or a count. -/
theorem deliverSample_still {i : SwitchInput} (h : i ≠ .ignOn) (ev : SampleEvent) (p : Panel) :
    (deliverSample p (i, ev)).pmc = p.pmc ∧ (deliverSample p (i, ev)).sws.inputs = p.sws.inputs := by
  have hlevel : ∀ (pressed : Bool) (q : Panel),
      (deliverLevel i pressed q).pmc = q.pmc ∧ (deliverLevel i pressed q).sws = q.sws := fun pressed q => by
    rcases deliverLevel_other h pressed q with heq | honly
    · rw [heq]
      exact ⟨rfl, rfl⟩
    · exact ⟨by rw [honly.1], by rw [honly.1]⟩
  cases ev with
  | nothing => exact ⟨rfl, rfl⟩
  | settled =>
    have honly := judgeWarnings_only p
    obtain ⟨hpmc, hsws⟩ := hlevel false (judgeWarnings p)
    rw [deliverSample_settled, hpmc, hsws]
    exact ⟨by rw [honly.1], by rw [honly.1]⟩
  | changed =>
    have honly := judgeWarnings_only (levelSeen i p)
    obtain ⟨hpmc, hsws⟩ := hlevel true (judgeWarnings (levelSeen i p))
    rw [deliverSample_changed, hpmc, hsws]
    exact ⟨by rw [honly.1]; rfl, by rw [honly.1]; rfl⟩

/-! ### The sample as a whole -/

theorem foldl_deliverSample_delivered : ∀ (es : List (SwitchInput × SampleEvent)) (p : Panel),
    Delivered p (es.foldl deliverSample p)
  | [], p => .refl p
  | e :: es, p => (foldl_deliverSample_delivered es _).after (deliverSample_judged p e).delivered

theorem foldl_deliverSample_known {i : SwitchInput} {es : List (SwitchInput × SampleEvent)}
    (h : (i, SampleEvent.changed) ∈ es) (p : Panel) : LevelKnown i (es.foldl deliverSample p) := by
  induction es generalizing p with
  | nil => exact absurd h List.not_mem_nil
  | cons e es ih =>
    rcases List.mem_cons.mp h with he | hin
    · have hknown : LevelKnown i (deliverSample p e) := he ▸ deliverSample_known p i
      exact hknown.delivered (foldl_deliverSample_delivered es _)
    · exact ih hin (deliverSample p e)

theorem foldl_deliverSample_still : ∀ (es : List (SwitchInput × SampleEvent)) (p : Panel),
    (∀ e ∈ es, e.1 ≠ .ignOn) →
    (es.foldl deliverSample p).pmc = p.pmc ∧ (es.foldl deliverSample p).sws.inputs = p.sws.inputs
  | [], p, _ => ⟨rfl, rfl⟩
  | e :: es, p, h => by
    obtain ⟨hpmc, hinputs⟩ := deliverSample_still (h e (by simp)) e.2 p
    obtain ⟨hpmcs, hinputss⟩ := foldl_deliverSample_still es (deliverSample p e) fun f hf => h f (by simp [hf])
    exact ⟨hpmcs.trans hpmc, hinputss.trans hinputs⟩

theorem foldl_deliverSample_nothing : ∀ (es : List (SwitchInput × SampleEvent)) (p : Panel),
    (∀ e ∈ es, e.2 = .nothing) → es.foldl deliverSample p = p
  | [], p, _ => rfl
  | ⟨i, ev⟩ :: es, p, h => by
    have hev : ev = .nothing := h (i, ev) (by simp)
    subst hev
    exact foldl_deliverSample_nothing es p fun f hf => h f (by simp [hf])

/-- What an input's sample brings. -/
def sampleOf (pins : BitVec 12) (p : Panel) (i : SwitchInput) : SwitchState × SampleEvent :=
  (p.sws.inputs.get i).sample (requiredSamples p.pmc.mode) (pinActive pins i)

/-- The part with its levels taken, before any is delivered. -/
def levelsTaken (pins : BitVec 12) (p : Panel) : Panel :=
  p.withSws { p.sws with
    inputs := PerSwitch.map Prod.fst (PerSwitch.of (sampleOf pins p))
    sampleTimer := Timer.start (sampleInterval p.pmc.mode)
    pins := pins }

theorem levelsTaken_get (pins : BitVec 12) (p : Panel) (i : SwitchInput) :
    (levelsTaken pins p).sws.inputs.get i = (sampleOf pins p i).1 := by
  show (PerSwitch.map Prod.fst (PerSwitch.of (sampleOf pins p))).get i = _
  rw [PerSwitch.get_map, PerSwitch.get_of]

/-- The inputs after ignition, in the order of their delivery. -/
def otherInputs : List SwitchInput := allInputs.tail

theorem mem_otherInputs (i : SwitchInput) : i ∈ otherInputs ↔ i ≠ .ignOn := by cases i <;> decide

def otherEvents (pins : BitVec 12) (p : Panel) : List (SwitchInput × SampleEvent) :=
  otherInputs.map fun i => (i, (sampleOf pins p i).2)

theorem switchSample_eq (pins : BitVec 12) (p : Panel) : switchSample pins p =
    (otherEvents pins p).foldl deliverSample
      (deliverSample (levelsTaken pins p) (.ignOn, (sampleOf pins p .ignOn).2)) :=
  rfl

theorem switchSample_delivered (pins : BitVec 12) (p : Panel) :
    Delivered (levelsTaken pins p) (switchSample pins p) := by
  rw [switchSample_eq]
  exact (foldl_deliverSample_delivered _ _).after (deliverSample_judged _ _).delivered

theorem switchSample_known {pins : BitVec 12} {p : Panel} {i : SwitchInput} (h : (sampleOf pins p i).2 = .changed) :
    LevelKnown i (switchSample pins p) := by
  rw [switchSample_eq]
  by_cases hi : i = .ignOn
  · subst hi
    rw [h]
    exact (deliverSample_known _ _).delivered (foldl_deliverSample_delivered _ _)
  · refine foldl_deliverSample_known ?_ _
    rw [← h]
    exact List.mem_map_of_mem (f := fun i => (i, (sampleOf pins p i).2)) ((mem_otherInputs i).mpr hi)

/-- The mode and the counts are those of ignition's delivery. -/
theorem switchSample_ignition (pins : BitVec 12) (p : Panel) :
    (switchSample pins p).pmc =
        (deliverSample (levelsTaken pins p) (.ignOn, (sampleOf pins p .ignOn).2)).pmc ∧
      (switchSample pins p).sws.inputs =
        (deliverSample (levelsTaken pins p) (.ignOn, (sampleOf pins p .ignOn).2)).sws.inputs := by
  rw [switchSample_eq]
  refine foldl_deliverSample_still _ _ fun e he => ?_
  obtain ⟨i, hi, rfl⟩ := List.mem_map.mp he
  exact (mem_otherInputs i).mp hi

theorem switchSample_judged (pins : BitVec 12) (p : Panel) : ModeJudged (levelsTaken pins p) (switchSample pins p) := by
  obtain ⟨hpmc, hinputs⟩ := switchSample_ignition pins p
  refine ⟨switchSample_delivered pins p, ?_⟩
  rw [hpmc, hinputs]
  exact (deliverSample_judged _ _).judged

/-- Every input stands at its accepted level, and nothing is delivered. -/
theorem switchSample_quiet {pins : BitVec 12} {p : Panel}
    (h : ∀ i, (p.sws.inputs.get i).accepted = levelOf (pinActive pins i)) :
    switchSample pins p = p.withSws { p.sws with
      inputs := PerSwitch.of fun i => ⟨(p.sws.inputs.get i).accepted, 0, pinActive pins i⟩
      sampleTimer := some (if p.pmc.mode = .standby then 64000 else 8000)
      pins := pins } := by
  have hsample : ∀ i, sampleOf pins p i = (⟨(p.sws.inputs.get i).accepted, 0, pinActive pins i⟩, .nothing) :=
    fun i => sample_same (h i)
  have htaken : levelsTaken pins p = p.withSws { p.sws with
      inputs := PerSwitch.of fun i => ⟨(p.sws.inputs.get i).accepted, 0, pinActive pins i⟩
      sampleTimer := some (if p.pmc.mode = .standby then 64000 else 8000)
      pins := pins } := by
    have hinputs : PerSwitch.map Prod.fst (PerSwitch.of (sampleOf pins p)) =
        PerSwitch.of fun i => ⟨(p.sws.inputs.get i).accepted, 0, pinActive pins i⟩ := by
      rw [funext hsample]
      rfl
    have htimer : sampleInterval p.pmc.mode = if p.pmc.mode = .standby then 64000 else 8000 := by
      cases p.pmc.mode <;> rfl
    rw [levelsTaken, hinputs, htimer]
    rfl
  rw [switchSample_eq, hsample, deliverSample_nothing, foldl_deliverSample_nothing, htaken]
  intro e he
  obtain ⟨i, -, rfl⟩ := List.mem_map.mp he
  rw [hsample]

/-- Settles O19: the sample of each input, what its delivery leaves, and what it brings. -/
theorem aLevelIsAcceptedAfterItsSamples : Obligations.ALevelIsAcceptedAfterItsSamples := by
  unfold Obligations.ALevelIsAcceptedAfterItsSamples
  refine ⟨fun s pins hp h => ?_, fun s pins i n x hp hn hx => ?_⟩
  · refine (State.act_powered _ hp).trans ?_
    rw [switchSample_quiet h]
    rfl
  have hjudged := switchSample_judged pins s.toPanel
  obtain ⟨hdelivered, hmode⟩ := hjudged
  have hsample : sampleOf pins s.toPanel i = x.sample n (pinActive pins i) := by
    rw [sampleOf, requiredSamples_eq, ← hn, ← hx]
  have hget := levelsTaken_get pins s.toPanel i
  rw [hsample] at hget
  have haccepted := (hdelivered.accepted i).trans (congrArg SwitchState.accepted hget)
  have hrecords := hdelivered.records
  refine ⟨switchSample pins s.toPanel, State.act_powered _ hp, fun hu hd hc => ⟨?_, ?_⟩, fun hu hsame => ?_,
    fun hu => ?_, ?_, fun hq => ?_, fun hq => ?_, hrecords.odometer, hrecords.trips, hrecords.timeOfDay,
    hrecords.cells, hrecords.pcu⟩
  · rw [haccepted, sample_differing hu hd, if_pos hc]
  · refine switchSample_known ?_
    rw [hsample, sample_differing hu hd, if_pos hc]
  · rw [haccepted]
    by_cases h : x.accepted = levelOf (pinActive pins i)
    · rw [sample_same h]
    · have hshort : x.count + 1 < n := hsame.resolve_left h
      rw [sample_differing hu h, if_neg (by omega)]
  · rw [haccepted, sample_unsettled hu]
    show (if n ≤ x.settlingCount _ then _ else _ : SwitchState × SampleEvent).1.accepted =
      if n ≤ x.settlingCount (pinActive pins i) then _ else _
    split <;> rfl
  · rw [hdelivered.lastActive, hget, sample_lastActive]
  · rcases hmode with ⟨hm, -⟩ | ⟨-, hcounts⟩
    · exact absurd hm hq
    · exact hcounts i
  · have hinputs : (switchSample pins s.toPanel).sws.inputs = (levelsTaken pins s.toPanel).sws.inputs := by
      rcases hmode with ⟨-, hi⟩ | ⟨hm, -⟩
      · exact hi
      · exact absurd hq hm
    have hcount : ((switchSample pins s.toPanel).sws.inputs.get i).count =
        (x.sample n (pinActive pins i)).1.count := by
      rw [hinputs, hget]
    refine ⟨fun h => ?_, fun hu hd => ?_, fun hu c hc => ?_⟩
    · rw [hcount, sample_same h]
    · rw [hcount, sample_differing hu hd]
      split <;> rfl
    · have hsettling : x.settlingCount (pinActive pins i) = c := hc.symm
      rw [hcount, sample_unsettled hu, hsettling]
      split <;> rfl

/-! ### Ignition (R191 to R194) -/

/-- A change of ignition's level, or its settling, is taken by the mode that stands. -/
theorem switchSample_takes {pins : BitVec 12} {p : Panel} (h : (sampleOf pins p .ignOn).2 ≠ .nothing) :
    ∃ r, (switchSample pins p).pmc = (takeIgnition r).pmc ∧ NoticesKept (takeIgnition r) (switchSample pins p) ∧
      r.pmc = p.pmc ∧ r.nvs = p.nvs ∧ (r.sws.inputs.get .ignOn).accepted = (sampleOf pins p .ignOn).1.accepted := by
  have hpmc := (switchSample_ignition pins p).1
  have hkept : NoticesKept (deliverSample (levelsTaken pins p) (.ignOn, (sampleOf pins p .ignOn).2))
      (switchSample pins p) := by
    rw [switchSample_eq]
    exact (foldl_deliverSample_delivered _ _).notices
  have haccepted : ((levelsTaken pins p).sws.inputs.get .ignOn).accepted = (sampleOf pins p .ignOn).1.accepted := by
    rw [levelsTaken_get]
  cases hev : (sampleOf pins p .ignOn).2 with
  | nothing => exact absurd hev h
  | settled =>
    have honly := judgeWarnings_only (levelsTaken pins p)
    rw [hev, deliverSample_settled, deliverLevel_ignition] at hpmc hkept
    exact ⟨_, hpmc, hkept, by rw [honly.1]; rfl, by rw [honly.1]; rfl,
      (honly.delivered.accepted _).trans haccepted⟩
  | changed =>
    have honly := judgeWarnings_only (levelSeen .ignOn (levelsTaken pins p))
    rw [hev, deliverSample_changed, deliverLevel_ignition] at hpmc hkept
    exact ⟨_, hpmc, hkept, by rw [honly.1]; rfl, by rw [honly.1]; rfl,
      (honly.delivered.accepted _).trans haccepted⟩

/-- Ignition's delivery entered a mode. -/
theorem switchSample_enters {pins : BitVec 12} {p r : Panel} {m : Mode} (hentered : ModeEntered m r (takeIgnition r))
    (hpmc : (switchSample pins p).pmc = (takeIgnition r).pmc)
    (hkept : NoticesKept (takeIgnition r) (switchSample pins p)) :
    (switchSample pins p).pmc.mode = m ∧ ∀ l, Noticed .mode l (switchSample pins p) :=
  ⟨by rw [hpmc, hentered.mode], fun l => hkept.noticed _ _ (hentered.noticed l)⟩

theorem inputActive_of {p : Panel} {i : SwitchInput} {active : Bool}
    (h : (p.sws.inputs.get i).accepted = levelOf active) : inputActive p i = active := by
  rw [inputActive, h]
  cases active <;> rfl

/-- Ignition's accepted level changes to that of its pin. -/
theorem sampleOf_ignition_changed {pins : BitVec 12} {p : Panel} {active : Bool} (hpin : pins.getLsbD 0 = active)
    (hlevel : (p.sws.inputs.get .ignOn).accepted = levelOf (!active))
    (hcount : requiredSamples p.pmc.mode ≤ (p.sws.inputs.get .ignOn).count + 1) :
    sampleOf pins p .ignOn = (⟨levelOf active, 0, active⟩, .changed) := by
  have hactive : pinActive pins .ignOn = active := hpin
  rw [sampleOf, hactive, sample_differing (by rw [hlevel]; exact levelOf_ne_unsettled _)
    (by rw [hlevel]; cases active <;> decide), if_pos hcount]

theorem sampleOf_ignition_settled {pins : BitVec 12} {p : Panel}
    (hlevel : (p.sws.inputs.get .ignOn).accepted = .unsettled)
    (hlast : (p.sws.inputs.get .ignOn).lastActive = pins.getLsbD 0) (hpos : 0 < (p.sws.inputs.get .ignOn).count)
    (hcount : requiredSamples p.pmc.mode ≤ (p.sws.inputs.get .ignOn).count + 1) :
    sampleOf pins p .ignOn = (⟨levelOf (pins.getLsbD 0), 0, pins.getLsbD 0⟩, .settled) := by
  have hactive : pinActive pins .ignOn = pins.getLsbD 0 := rfl
  have hsettling : (p.sws.inputs.get .ignOn).settlingCount (pins.getLsbD 0) = (p.sws.inputs.get .ignOn).count + 1 :=
    if_pos ⟨hpos, hlast⟩
  rw [sampleOf, hactive, sample_unsettled hlevel, hsettling, if_pos hcount]

/-- R192, R194: ignition turned on outside RUN begins RUN. -/
theorem switchSample_begins_run {pins : BitVec 12} {p : Panel}
    (hmode : p.pmc.mode = .shutdown ∨ p.pmc.mode = .standby) (hlow : p.pmc.supplyLow = false)
    (hlevel : (p.sws.inputs.get .ignOn).accepted = .inactive)
    (hpin : pins.getLsbD 0 = true)
    (hcount : requiredSamples p.pmc.mode ≤ (p.sws.inputs.get .ignOn).count + 1) :
    (switchSample pins p).pmc.mode = .run ∧ ∀ l, Noticed .mode l (switchSample pins p) := by
  have hsample := sampleOf_ignition_changed hpin hlevel hcount
  obtain ⟨r, hpmc, hkept, hrpmc, -, hrlevel⟩ := switchSample_takes (p := p) (pins := pins) (by rw [hsample]; decide)
  replace hrlevel : (r.sws.inputs.get .ignOn).accepted = levelOf true := by rw [hrlevel, hsample]
  have htaken : takeIgnition r = enterRun r := by
    rw [takeIgnition_of_off (by rw [hrpmc]; exact hmode), inputActive_of hrlevel, hrpmc, hlow]
    rfl
  exact switchSample_enters (htaken ▸ enterRun_entered r) hpmc hkept

/-- Settles O20: ignition's sample, and the mode entry that takes it. -/
theorem ignitionChangesTheMode : Obligations.IgnitionChangesTheMode := by
  unfold Obligations.IgnitionChangesTheMode
  intro s pins hp
  have hfour : 3 ≤ (s.sws.inputs.get .ignOn).count → s.pmc.mode ≠ .standby →
      requiredSamples s.pmc.mode ≤ (s.sws.inputs.get .ignOn).count + 1 := fun h hm => by
    rw [requiredSamples_eq, if_neg hm]
    omega
  refine ⟨switchSample pins s.toPanel, State.act_powered _ hp, fun hmode hlevel hpin hcount => ?_,
    fun hmode hlow hlevel hpin hcount => ?_, fun hmode hlow hlevel hpin hcount => ?_,
    fun hmode hdone hlevel hlast hcount => ?_⟩
  · have hsample := sampleOf_ignition_changed (p := s.toPanel) hpin hlevel
      (hfour hcount (by rw [hmode]; decide))
    obtain ⟨r, hpmc, hkept, hrpmc, -, hrlevel⟩ := switchSample_takes (p := s.toPanel) (pins := pins)
      (by rw [hsample]; decide)
    replace hrlevel : (r.sws.inputs.get .ignOn).accepted = levelOf false := by rw [hrlevel, hsample]
    have htaken : takeIgnition r = enterShutdown r := by
      rw [takeIgnition_of_run (by rw [hrpmc]; exact hmode), inputActive_of hrlevel, if_neg Bool.false_ne_true]
    exact switchSample_enters (htaken ▸ enterShutdown_entered r) hpmc hkept
  · exact switchSample_begins_run (.inl hmode) hlow hlevel hpin (hfour hcount (by rw [hmode]; decide))
  · refine switchSample_begins_run (.inr hmode) hlow hlevel hpin ?_
    rw [requiredSamples_eq, if_pos hmode]
    exact Nat.succ_le_succ hcount
  · have hsample := sampleOf_ignition_settled (p := s.toPanel) hlevel hlast (Nat.lt_of_lt_of_le (by decide) hcount)
      (hfour hcount (by rw [hmode]; decide))
    obtain ⟨r, hpmc, hkept, hrpmc, hrnvs, hrlevel⟩ := switchSample_takes (p := s.toPanel) (pins := pins)
      (by rw [hsample]; exact SampleEvent.noConfusion)
    replace hrlevel : (r.sws.inputs.get .ignOn).accepted = levelOf (pins.getLsbD 0) := by rw [hrlevel, hsample]
    have hleave : takeIgnition r =
        if pins.getLsbD 0 && !s.pmc.supplyLow then enterRun r else enterStandby r := by
      rw [takeIgnition_of_startup (by rw [hrpmc]; exact hmode), leaveStartup, if_pos, inputActive_of hrlevel, hrpmc]
      exact ⟨by rw [hrpmc]; exact hmode, by rw [hrnvs]; exact hdone,
        by rw [hrlevel]; exact levelOf_ne_unsettled _⟩
    by_cases hon : pins.getLsbD 0 = true ∧ s.pmc.supplyLow = false
    · rw [if_pos (by rw [hon.1, hon.2]; rfl)] at hleave
      rw [if_pos hon]
      exact switchSample_enters (hleave ▸ enterRun_entered r) hpmc hkept
    · rw [if_neg (by simpa using hon)] at hleave
      rw [if_neg hon]
      exact switchSample_enters (hleave ▸ enterStandby_entered r) hpmc hkept

end Sys2Proof.Machine
end

section
/-! PROOFS. The write queue while the supply is low (R163, R190). -/

namespace Sys2Proof.Machine

open Sys2Proof

/-- The supply is low, and no waiting job may be removed. -/
structure SupplyIsLow (p : Panel) : Prop where
  low : p.pmc.supplyLow = true
  solid : ∀ j ∈ p.nvs.queue, j.removable = false

/-! ### What is in the queue -/

/-- A job of a joined queue waited, is the new one, or holds a waiting one's data with the new data in it. -/
theorem mem_join_cases {n : Nvs} {j x : WriteJob} (h : x ∈ n.join j) :
    x = j ∨ x ∈ n.queue ∨ ∃ q ∈ n.queue, q.data.covers j.data = true ∧ x = WriteJob.merge n q j := by
  unfold Nvs.join at h
  dsimp only at h
  split at h
  · obtain ⟨q, hq, hx⟩ := List.mem_map.mp h
    have hwaits := (List.mem_filter.mp hq).1
    split at hx
    case isTrue hcovers => exact .inr (.inr ⟨q, hwaits, hcovers, hx.symm⟩)
    case isFalse => exact .inr (.inl (hx ▸ hwaits))
  · exact (mem_insertByClass_iff.mp h).imp id fun hm => .inl (List.mem_filter.mp hm).1

theorem purgeIfSupplyLow_low {p : Panel} (h : p.pmc.supplyLow = true) : (purgeIfSupplyLow p).nvs =
    { p.nvs with queue := p.nvs.queue.filter fun j => !j.removable } := by
  rw [purgeIfSupplyLow, if_pos h, removeNormal_nvs]

theorem mem_queueJob_low {j x : WriteJob} {p : Panel} (hlow : p.pmc.supplyLow = true)
    (hx : x ∈ (queueJob j p).nvs.queue) : x ∈ p.nvs.join j ∧ x.removable = false := by
  have hpurged := purgeIfSupplyLow_low (p := p.withNvs { p.nvs with queue := p.nvs.join j }) hlow
  have hin : x ∈ (purgeIfSupplyLow (p.withNvs { p.nvs with queue := p.nvs.join j })).nvs.queue := mem_beginNext hx
  rw [hpurged] at hin
  obtain ⟨hjoined, hstays⟩ := List.mem_filter.mp hin
  exact ⟨hjoined, by simpa using hstays⟩

theorem SupplyIsLow.queueJob {p : Panel} (h : SupplyIsLow p) (j : WriteJob) : SupplyIsLow (queueJob j p) :=
  ⟨by rw [(queueJob_reaches j p).pmc, h.low], fun _ hx => (mem_queueJob_low h.low hx).2⟩

/-- R163: no NORMAL job that is not begun waits once the supply is low. -/
theorem removeNormal_low {p : Panel} (h : p.pmc.supplyLow = true) : SupplyIsLow (removeNormal p) := by
  refine ⟨by rw [(removeNormal_reaches p).pmc, h], fun j hj => ?_⟩
  rw [removeNormal_nvs] at hj
  simpa using (List.mem_filter.mp hj).2

theorem removable_eq (j : WriteJob) : (!j.removable) = (decide (j.jobClass = .urgent) || j.progress.isSome) := by
  unfold WriteJob.removable
  cases j.jobClass <;> cases j.progress <;> rfl

/-- R161: among jobs that may not be removed, an URGENT job joins or finds no room. -/
theorem queueUrgent_low {p : Panel} (h : SupplyIsLow p) (d : JobData) :
    queueUrgent d p = p ∨ queueUrgent d p = queueJob ⟨d, .urgent, .internal, none⟩ p := by
  have hnone : lastRemovable p.nvs.queue = none :=
    List.find?_eq_none.mpr fun j hj => by rw [h.solid j (List.mem_reverse.mp hj)]; decide
  unfold queueUrgent
  dsimp only
  split
  · exact .inr rfl
  · rw [hnone]
    exact .inl rfl

theorem queueUrgent_low_of_room {p : Panel} (d : JobData) (h : p.nvs.jobCount < 8) :
    queueUrgent d p = queueJob ⟨d, .urgent, .internal, none⟩ p := by
  have hslots : 0 < p.nvs.freeSlots := by
    unfold Nvs.freeSlots
    omega
  unfold queueUrgent
  dsimp only
  rw [decide_eq_true hslots, Bool.or_true, if_pos rfl]

theorem SupplyIsLow.queueUrgent {p : Panel} (h : SupplyIsLow p) (d : JobData) : SupplyIsLow (queueUrgent d p) := by
  rcases queueUrgent_low h d with heq | heq <;> rw [heq]
  · exact h
  · exact h.queueJob _

/-- A job apart from an URGENT one stays held when that one joins. -/
theorem queueUrgent_has_still {P : WriteJob → Prop} (hP : Lasting P) {d : JobData} {p : Panel} (hlow : SupplyIsLow p)
    (h : p.nvs.Has P) (hapart : ∀ x, P x → x.data.Apart d) : (queueUrgent d p).nvs.Has P := by
  rcases queueUrgent_low hlow d with heq | heq <;> rw [heq]
  · exact h
  · obtain ⟨x, hx | hx, hPx⟩ := h
    · exact queueJob_has hP (Nvs.mem_join_of_apart hx (hapart x hPx).left (hapart x hPx).right) hPx
        (.inr (hlow.solid x hx))
    · exact queueJob_has_of_inFlight hP hx hPx

theorem cells_apart_odometer {d : JobData} (h : ∀ v, d ≠ .odometer v) (v : Nat) : d.Apart (.odometer v) := by
  cases d with
  | odometer w => exact absurd rfl (h w)
  | cells f ws => exact ⟨rfl, rfl⟩

/-- Cells that join bring no odometer job. -/
theorem queueUrgent_no_odometer {p : Panel} {f : Nat} {ws : List StoreWord} (hlow : SupplyIsLow p)
    (h : ∀ j ∈ p.nvs.queue, ∀ v, j.data ≠ .odometer v) :
    ∀ j ∈ (queueUrgent (.cells f ws) p).nvs.queue, ∀ v, j.data ≠ .odometer v := by
  rcases queueUrgent_low hlow (.cells f ws) with heq | heq <;> rw [heq]
  · exact h
  · intro x hx v
    rcases mem_join_cases (mem_queueJob_low hlow.low hx).1 with rfl | hwaits | ⟨q, hq, hcovers, rfl⟩
    · exact JobData.noConfusion
    · exact h x hwaits v
    · cases hd : q.data with
      | odometer w => exact absurd hd (h q hq w)
      | cells g vs =>
        simp only [WriteJob.merge, hd, JobData.mergeWith]
        exact JobData.noConfusion

/-! ### How many jobs there are -/

theorem insertByClass_urgent_length {j : WriteJob} (h : j.jobClass = .urgent) (q : List WriteJob) :
    (insertByClass j q).length = q.length + 1 := by
  have hnormal : (fun x : WriteJob => x.jobClass == .normal) = fun x => !(x.jobClass == .urgent) :=
    funext fun x => by cases x.jobClass <;> rfl
  have hsum := List.length_eq_length_filter_add (l := q) fun x => x.jobClass == .urgent
  rw [insertByClass, h]
  dsimp only
  rw [hnormal, List.length_append, List.length_cons]
  omega

theorem join_urgent_length {n : Nvs} {j : WriteJob} (h : j.jobClass = .urgent) :
    (n.join j).length ≤ n.queue.length + 1 := by
  unfold Nvs.join
  dsimp only
  split
  · rw [List.length_map]
    exact Nat.le_succ_of_le (List.length_filter_le _ _)
  · rw [insertByClass_urgent_length h]
    exact Nat.succ_le_succ (List.length_filter_le _ _)

theorem beginNext_jobCount (n : Nvs) : n.beginNext.jobCount = n.jobCount := by
  unfold Nvs.beginNext
  split
  · rfl
  case h_2 hfree =>
    have hcount : n.jobCount = n.queue.length := by rw [Nvs.jobCount, hfree]; rfl
    split
    · split
      case h_1 j hj =>
        have hlen := List.length_eraseP_of_mem (List.mem_of_find?_eq_some hj) (List.find?_some hj)
        have hpos := List.length_pos_of_mem (List.mem_of_find?_eq_some hj)
        show (n.queue.eraseP _).length + 1 = n.jobCount
        rw [hlen, hcount]
        omega
      · rfl
    · split
      case h_1 j rest hq =>
        rw [hcount, hq]
        rfl
      · rfl

/-- An URGENT job takes one place at the most. -/
theorem queueUrgent_jobCount {p : Panel} (d : JobData) (hlow : SupplyIsLow p) :
    (queueUrgent d p).nvs.jobCount ≤ p.nvs.jobCount + 1 := by
  rcases queueUrgent_low hlow d with heq | heq <;> rw [heq]
  · exact Nat.le_succ _
  · have hjoined := join_urgent_length (n := p.nvs) (j := ⟨d, .urgent, .internal, none⟩) rfl
    have hpurged := purgeIfSupplyLow_low
      (p := p.withNvs { p.nvs with queue := p.nvs.join ⟨d, .urgent, .internal, none⟩ }) hlow.low
    have hcount : (queueJob ⟨d, .urgent, .internal, none⟩ p).nvs.jobCount =
        ((p.nvs.join ⟨d, .urgent, .internal, none⟩).filter fun j => !j.removable).length +
          p.nvs.inFlight.toList.length := by
      refine (beginNext_jobCount _).trans ?_
      rw [hpurged]
      rfl
    have hfilter := List.length_filter_le (fun j : WriteJob => !j.removable)
      (p.nvs.join ⟨d, .urgent, .internal, none⟩)
    rw [hcount, Nvs.jobCount]
    omega

end Sys2Proof.Machine
end

section
/-! PROOFS. SHUTDOWN entry at a low supply. Settles O58. -/

namespace Sys2Proof.Machine

open Sys2Proof

/-! ### The check's abort (R149) -/

/-- What the end of a check, or no check at all, leaves at a mode change. -/
structure CheckOver (p q : Panel) : Prop where
  stopped : q.chk.state ≠ .running
  phase : q.chk.phase = if p.chk.state = .running then .none else p.chk.phase
  indication : q.chk.faultIndication = p.chk.faultIndication

/-- What the check's abort does to the item under test. -/
def abortedItem (item : Option CheckItem) (p : Panel) : Panel :=
  match item with
  | some (.coil g _) => releaseHold g p
  | _ => settleLamps p

/-- The check's own state at its abort. -/
def Chk.aborted (c : Chk) : Chk := { c with state := .aborted, currentItem := none, phase := .none, driveTime := none }

theorem abortCheck_running {p : Panel} (h : p.chk.state = .running) :
    abortCheck p = notifyAll .check (abortedItem p.chk.currentItem (p.withChk p.chk.aborted)) := by
  unfold abortCheck
  rw [if_pos h]
  rfl

theorem abortCheck_stopped {p : Panel} (h : p.chk.state ≠ .running) : abortCheck p = p := if_neg h

theorem abortedItem_chk (item : Option CheckItem) (p : Panel) : (abortedItem item p).chk = p.chk := by
  cases item with
  | none => rfl
  | some i => cases i <;> rfl

theorem abortCheck_over (p : Panel) : CheckOver p (abortCheck p) := by
  by_cases h : p.chk.state = .running
  · have hchk : (abortCheck p).chk = p.chk.aborted := by
      rw [abortCheck_running h]
      exact abortedItem_chk _ _
    refine ⟨?_, ?_, ?_⟩
    · rw [hchk]
      exact CheckState.noConfusion
    · rw [hchk, if_pos h]
      rfl
    · rw [hchk]
      rfl
  · rw [abortCheck_stopped h]
    exact ⟨h, by rw [if_neg h], rfl⟩

/-- R82: released in SHUTDOWN, a gauge parks or stays disabled. -/
theorem judgeReturn_parks {r : GaugeRecord} (h : r.phase = .parking ∨ r.phase = .disabled) :
    (r.judgeReturn .shutdown).phase = .parking ∨ (r.judgeReturn .shutdown).phase = .disabled := by
  unfold GaugeRecord.judgeReturn
  split
  · exact .inl rfl
  · exact h

theorem abortedItem_gauges (item : Option CheckItem) {p : Panel} (hmode : p.pmc.mode = .shutdown)
    (h : ∀ g, (p.gdr.gauges.get g).phase = .parking ∨ (p.gdr.gauges.get g).phase = .disabled) (g : Gauge) :
    ((abortedItem item p).gdr.gauges.get g).phase = .parking ∨
      ((abortedItem item p).gdr.gauges.get g).phase = .disabled := by
  cases item with
  | none => exact h g
  | some i =>
    cases i with
    | lamp l => exact h g
    | coil k c =>
      show ((releaseHold k p).gdr.gauges.get g).phase = _ ∨ ((releaseHold k p).gdr.gauges.get g).phase = _
      rw [releaseHold_get, hmode]
      split
      · exact judgeReturn_parks (r := { p.gdr.gauges.get k with hold := .none }) (h k)
      · exact h g

theorem abortCheck_gauges {p : Panel} (hmode : p.pmc.mode = .shutdown)
    (h : ∀ g, (p.gdr.gauges.get g).phase = .parking ∨ (p.gdr.gauges.get g).phase = .disabled) (g : Gauge) :
    ((abortCheck p).gdr.gauges.get g).phase = .parking ∨ ((abortCheck p).gdr.gauges.get g).phase = .disabled := by
  by_cases hrun : p.chk.state = .running
  · rw [abortCheck_running hrun]
    exact abortedItem_gauges _ (p := p.withChk p.chk.aborted) hmode h g
  · rw [abortCheck_stopped hrun]
    exact h g

/-! ### The warnings judged before the abort -/

theorem abortedItem_lampsOnly (item : Option CheckItem) (p : Panel) : LampsOnly p (abortedItem item p) := by
  cases item with
  | none => exact settleLamps_lampsOnly p
  | some i =>
    cases i with
    | lamp l => exact settleLamps_lampsOnly p
    | coil g c => exact .of_wrc rfl

/-- No lamp is under test while a coil is, nor when none is: the abort leaves every lamp as it should be. -/
theorem abortCheck_settled {p : Panel} (h : LampsSettled p) : LampsSettled (abortCheck p) := by
  by_cases hrun : p.chk.state = .running
  · rw [abortCheck_running hrun]
    intro l
    cases hitem : p.chk.currentItem with
    | none => exact settleLamps_settled (p.withChk p.chk.aborted) l
    | some i =>
      cases i with
      | lamp k => exact settleLamps_settled (p.withChk p.chk.aborted) l
      | coil g c =>
        have hbefore : lampUnderTest p l = false := by
          rw [lampUnderTest, hitem]
          exact Bool.and_false _
        have hl := h l
        rw [judgeLamp, hbefore] at hl
        exact hl
  · rw [abortCheck_stopped hrun]
    exact h

theorem abortCheck_presence (p : Panel) : PresenceKept p (abortCheck p) := by
  by_cases hrun : p.chk.state = .running
  · rw [abortCheck_running hrun]
    have hlnk : (abortedItem p.chk.currentItem (p.withChk p.chk.aborted)).lnk = p.lnk := by
      cases p.chk.currentItem with
      | none => rfl
      | some i => cases i <;> rfl
    intro l
    rw [notifyAll_presence .check _ l, hlnk]
  · rw [abortCheck_stopped hrun]
    exact fun _ => rfl

theorem abortCheck_lampsOnly (p : Panel) : LampsOnly p (abortCheck p) := by
  by_cases hrun : p.chk.state = .running
  · rw [abortCheck_running hrun]
    exact abortedItem_lampsOnly p.chk.currentItem (p.withChk p.chk.aborted)
  · rw [abortCheck_stopped hrun]
    exact .of_wrc rfl

theorem abortCheck_kept (p : Panel) : TestsKept p (abortCheck p) where
  reaches := (abortCheck_reaches p).mono (by decide)
  lamps := abortCheck_lampsOnly p
  present := abortCheck_presence p
  indication := (abortCheck_over p).indication

theorem JudgedFrom.abort {w : Wrc} {p : Panel} (h : JudgedFrom w p) : JudgedFrom w (abortCheck p) :=
  h.of_kept (abortCheck_kept p) (abortCheck_settled h.settled) fun l => (abortCheck_noticesKept p).noticed _ l

/-- No test of a warning reads the latch or the window. -/
theorem closeLatch_kept (p : Panel) (k : WarningKind) :
    (SetTest (Panel.onNvs Nvs.closeLatch p) k ↔ SetTest p k) ∧
      (ClearTest (Panel.onNvs Nvs.closeLatch p) k ↔ ClearTest p k) := by
  cases k <;> exact ⟨Iff.rfl, Iff.rfl⟩

theorem JudgedFrom.closeLatch {w : Wrc} {p : Panel} (h : JudgedFrom w p) :
    JudgedFrom w (Panel.onNvs Nvs.closeLatch p) := by
  refine ⟨h.batteryLow, h.batteryHigh, fun k hk => ?_, h.risen, h.fallen, h.kept, h.noticed, h.players,
    h.lamps, h.rest⟩
  have hlevel := h.level k hk
  rw [LevelJudged, ← (closeLatch_kept p k).1, ← (closeLatch_kept p k).2] at hlevel
  exact hlevel

/-! ### SHUTDOWN entry (R193) -/

theorem gaugesEnterShutdown_phase (p : Panel) (g : Gauge) :
    ((gaugesEnterShutdown p).gdr.gauges.get g).phase = .parking ∨
      ((gaugesEnterShutdown p).gdr.gauges.get g).phase = .disabled := by
  have hget : (gaugesEnterShutdown p).gdr.gauges.get g = if (p.gdr.gauges.get g).phase = .disabled then
      p.gdr.gauges.get g else { p.gdr.gauges.get g with phase := .parking, target := 0 } :=
    mapGauges_get (fun _ r => if r.phase = .disabled then r else { r with phase := .parking, target := 0 }) p g
  rw [hget]
  split
  case isTrue h => exact .inr h
  case isFalse => exact .inl rfl

/-- The warnings are judged as the windows of RUN close. -/
theorem enterShutdown_judged (p : Panel) :
    JudgedFrom { p.wrc with bulbCheck := false, beltWindow := false, linkGraceTimer := none } (enterShutdown p) := by
  have hwrc : (beforeShutdown p).wrc =
      { p.wrc with bulbCheck := false, beltWindow := false, linkGraceTimer := none } := by
    have htenths := (gaugesEnterShutdown_reaches _).after (ds := [.dfa, .gdr, .nvs, .lnk])
      ((queueTenths_reaches _).after (ds := [.dfa, .nvs, .lnk])
        ((onDfa_reaches (Dfa.setSampleTimer none) _).after (ds := [.dfa, .nvs, .lnk])
          (queueUrgent_reaches (.cells 34 (snapshotWords p.dfa.estimate p.trc.trips)) (beforeSnapshot p))))
    exact congrArg Wrc.enterShutdown htenths.wrc
  have hjudged := (judgeWarnings_judged (beforeShutdown p)).2.1
  rw [hwrc] at hjudged
  rw [enterShutdown_eq_beforeShutdown]
  exact hjudged.abort.closeLatch

/-- The gauges park, but for those that are disabled. -/
theorem enterShutdown_gauges (p : Panel) (g : Gauge) : ((enterShutdown p).gdr.gauges.get g).phase = .parking ∨
    ((enterShutdown p).gdr.gauges.get g).phase = .disabled := by
  have hmode : (judgeWarnings (beforeShutdown p)).pmc.mode = .shutdown := by
    have h := (enterShutdown_entered p).mode
    rw [enterShutdown_eq_beforeShutdown] at h
    have hkept : (Panel.onNvs Nvs.closeLatch (abortCheck (judgeWarnings (beforeShutdown p)))).pmc =
        (judgeWarnings (beforeShutdown p)).pmc := (abortCheck_reaches _).pmc
    rw [hkept] at h
    exact h
  rw [enterShutdown_eq_beforeShutdown]
  refine abortCheck_gauges hmode (fun k => ?_) g
  rw [(judgeWarnings_reaches _).gdr]
  exact gaugesEnterShutdown_phase _ k

theorem enterShutdown_check (p : Panel) : CheckOver p (enterShutdown p) := by
  have hchk : (judgeWarnings (beforeShutdown p)).chk = p.chk := by
    rw [(judgeWarnings_reaches _).chk, (beforeShutdown_reaches p).chk]
  obtain ⟨hstopped, hphase, hindication⟩ := abortCheck_over (judgeWarnings (beforeShutdown p))
  rw [hchk] at hphase hindication
  rw [enterShutdown_eq_beforeShutdown]
  exact ⟨hstopped, hphase, hindication⟩

end Sys2Proof.Machine
end

section
/-! PROOFS. The jobs of SHUTDOWN entry at a low supply. Settles O58. -/

namespace Sys2Proof.Machine

open Sys2Proof

/-- R190: the snapshot's job. -/
def snapshotData (p : Panel) : JobData := .cells 34 (snapshotWords p.dfa.estimate p.trc.trips)

/-- The part once the snapshot is queued. -/
def snapshotQueued (p : Panel) : Panel := queueSnapshot (beforeSnapshot p)

/-- The part once the odometer's tenths are queued too. -/
def tenthsQueued (p : Panel) : Panel := queueTenths (Panel.onDfa (Dfa.setSampleTimer none) (snapshotQueued p))

theorem snapshotQueued_eq (p : Panel) : snapshotQueued p = queueUrgent (snapshotData p) (beforeSnapshot p) := rfl

/-- Nothing after the tenths touches a job, but the latch and the window close. -/
theorem enterShutdown_nvs (p : Panel) : (enterShutdown p).nvs = (tenthsQueued p).nvs.closeLatch := by
  have hnvs : (abortCheck (judgeWarnings (beforeShutdown p))).nvs = (tenthsQueued p).nvs := by
    rw [(abortCheck_reaches _).nvs, (judgeWarnings_reaches _).nvs]
    rfl
  rw [enterShutdown_eq_beforeShutdown]
  exact congrArg Nvs.closeLatch hnvs

theorem queueTenths_of_tenths {p : Panel} (h : p.dfa.odometer % 10 ≠ 0) :
    queueTenths p = queueUrgent (.odometer p.dfa.odometer) p := if_neg h

section
variable {p : Panel} (hlow : SupplyIsLow p)
include hlow

theorem SupplyIsLow.beforeSnapshot : SupplyIsLow (beforeSnapshot p) := ⟨hlow.low, hlow.solid⟩

theorem SupplyIsLow.snapshotQueued : SupplyIsLow (snapshotQueued p) := hlow.beforeSnapshot.queueUrgent _

theorem SupplyIsLow.untimed : SupplyIsLow (Panel.onDfa (Dfa.setSampleTimer none) (Machine.snapshotQueued p)) :=
  ⟨hlow.snapshotQueued.low, hlow.snapshotQueued.solid⟩

theorem SupplyIsLow.tenthsQueued : SupplyIsLow (tenthsQueued p) := by
  unfold Machine.tenthsQueued Machine.queueTenths
  split
  · exact hlow.untimed
  · exact hlow.untimed.queueUrgent _

/-- What is held when the snapshot has joined is held when the tenths have, unless it is an odometer job. -/
theorem SupplyIsLow.held_over_tenths {P : WriteJob → Prop} (hP : Lasting P)
    (hcells : ∀ x, P x → ∀ v, x.data ≠ .odometer v)
    (h : (Machine.snapshotQueued p).nvs.Has P) : (Machine.tenthsQueued p).nvs.Has P := by
  unfold Machine.tenthsQueued Machine.queueTenths
  split
  · exact h
  · exact queueUrgent_has_still hP hlow.untimed h fun x hx => cells_apart_odometer (hcells x hx) _

theorem SupplyIsLow.holds_snapshot (hroom : p.nvs.jobCount < 8)
    (h : ∀ j ∈ p.nvs.queue, j.data.covers (snapshotData p) = false) :
    (Machine.tenthsQueued p).nvs.HoldsUrgent (snapshotData p) := by
  refine hlow.held_over_tenths (lasting_urgent _) (fun x hx v => ?_) ?_
  · rw [hx.1]
    exact JobData.noConfusion
  · rw [snapshotQueued_eq, queueUrgent_low_of_room _ (by exact hroom)]
    exact queueJob_holdsUrgent rfl h

theorem SupplyIsLow.holds_odometer (hroom : p.nvs.jobCount < 7)
    (h : ∀ j ∈ p.nvs.queue, ∀ v, j.data ≠ .odometer v) (htenths : p.dfa.odometer % 10 ≠ 0) :
    (Machine.tenthsQueued p).nvs.HoldsUrgent (.odometer p.dfa.odometer) := by
  have hsnap : (Machine.snapshotQueued p).dfa = p.dfa :=
    (queueUrgent_reaches (snapshotData p) (Machine.beforeSnapshot p)).dfa
  have hodo : (Panel.onDfa (Dfa.setSampleTimer none) (Machine.snapshotQueued p)).dfa.odometer = p.dfa.odometer := by
    show (Machine.snapshotQueued p).dfa.odometer = p.dfa.odometer
    rw [hsnap]
  have hcount : (Panel.onDfa (Dfa.setSampleTimer none) (Machine.snapshotQueued p)).nvs.jobCount ≤
      p.nvs.jobCount + 1 :=
    queueUrgent_jobCount (snapshotData p) hlow.beforeSnapshot
  have hfree := queueUrgent_no_odometer (f := 34) (ws := snapshotWords p.dfa.estimate p.trc.trips)
    hlow.beforeSnapshot h
  unfold Machine.tenthsQueued
  rw [queueTenths_of_tenths (by rw [hodo]; exact htenths), hodo, queueUrgent_low_of_room _ (by omega)]
  exact queueJob_holdsUrgent rfl fun j hj => covers_odometer (hfree j hj)

theorem SupplyIsLow.holds_other {j : WriteJob} (hj : j ∈ p.nvs.queue) (hcells : ∀ v, j.data ≠ .odometer v)
    (hapart : j.data.Apart (snapshotData p)) :
    (Machine.tenthsQueued p).nvs.Has fun x => x.data = j.data ∧ x.jobClass = j.jobClass := by
  refine hlow.held_over_tenths (fun _ _ hx => hx) (fun x hx => ?_) ?_
  · rw [hx.1]
    exact hcells
  · exact queueUrgent_has_still (fun _ _ hx => hx) hlow.beforeSnapshot ⟨j, .inl hj, rfl, rfl⟩ fun x hx => by
      rw [hx.1]
      exact hapart

end

theorem closeLatch_has {n : Nvs} {P : WriteJob → Prop} (h : n.Has P) : n.closeLatch.Has P := h

/-! ### The supply low (R190) -/

/-- The part once the supply is low and its removable jobs are gone. -/
def supplyLost (p : Panel) : Panel := removeNormal (Panel.onPmc (Pmc.setSupplyLow true) p)

theorem supplyLost_low (p : Panel) : SupplyIsLow (supplyLost p) := removeNormal_low rfl

theorem supplyLost_reaches (p : Panel) : Reaches [.pmc, .nvs, .lnk] p (supplyLost p) :=
  (removeNormal_reaches _).after (onPmc_reaches _ p)

theorem supplyLost_nvs (p : Panel) : (supplyLost p).nvs = { p.nvs with
    queue := p.nvs.queue.filter fun j => decide (j.jobClass = .urgent) || j.progress.isSome } := by
  have hkept : (fun j : WriteJob => !j.removable) =
      fun j => decide (j.jobClass = .urgent) || j.progress.isSome := funext removable_eq
  rw [supplyLost, removeNormal_nvs, hkept]
  rfl

theorem supplyLost_pmc (p : Panel) : (supplyLost p).pmc = { p.pmc with supplyLow := true } :=
  (removeNormal_reaches _).pmc

theorem mem_supplyLost {p : Panel} {j : WriteJob} :
    j ∈ (supplyLost p).nvs.queue ↔ j ∈ p.nvs.queue ∧ j.removable = false := by
  rw [supplyLost, removeNormal_nvs]
  exact List.mem_filter.trans (and_congr Iff.rfl (by simp))

theorem supplyLowAsserted_of_released {p : Panel} (h : p.pmc.supplyLow = false) :
    supplyLowAsserted p = if p.pmc.mode = .run then enterShutdown (supplyLost p) else supplyLost p := by
  rw [supplyLowAsserted_eq, h, if_neg Bool.false_ne_true]
  rfl

/-- R193: the mode controller at SHUTDOWN entry. -/
theorem enterShutdown_pmc (p : Panel) : (enterShutdown p).pmc = { p.pmc with
    mode := .shutdown, bulbCheckTimer := none, beltTimer := none, gaugesAtRest := false, snapshotWritten := false
    shutdownTimer := some 2000000 } :=
  (afterSnapshot_reaches p).pmc

/-- Settles O58: outside RUN the jobs alone, in RUN the entry of SHUTDOWN too. -/
theorem supplyLowEndsRun : Obligations.SupplyLowEndsRun := by
  unfold Obligations.SupplyLowEndsRun
  intro s hp
  refine ⟨fun hlow => ?_, fun hreleased => ?_⟩
  · refine (State.act_powered _ hp).trans ?_
    rw [supplyLowAsserted_eq, if_pos hlow]
  have hlost := supplyLost_low s.toPanel
  have hreach := supplyLost_reaches s.toPanel
  have hnvs := supplyLost_nvs s.toPanel
  have hpmc := supplyLost_pmc s.toPanel
  refine ⟨supplyLowAsserted s.toPanel, State.act_powered _ hp, ?_⟩
  rw [supplyLowAsserted_of_released hreleased]
  by_cases hrun : s.pmc.mode = .run
  · rw [if_pos hrun]
    have hentered := enterShutdown_entered (supplyLost s.toPanel)
    have hover := enterShutdown_check (supplyLost s.toPanel)
    have hend := (enterShutdown_reaches (supplyLost s.toPanel))
    have hqueue := enterShutdown_nvs (supplyLost s.toPanel)
    have hjudged := enterShutdown_judged (supplyLost s.toPanel)
    rw [hreach.wrc] at hjudged
    have hphase := hover.phase
    rw [hreach.chk] at hphase
    refine ⟨by rw [hentered.supply, hpmc], ?_, by rw [hentered.records.cells, hnvs],
      by rw [hentered.records.odometer, hreach.dfa], fun hnot => absurd hrun hnot, fun _ snapshot hsnap hroom => ?_,
      hend.trc.trans hreach.trc, hend.pcu.trans hreach.pcu, hend.adc.trans hreach.adc, hend.svm.trans hreach.svm,
      fun hnot => absurd hrun hnot, fun _ => ⟨?_, ?_, hover.stopped, hphase, ?_, ?_, hjudged,
        enterShutdown_gauges _, hentered.noticed⟩⟩
    · rw [hqueue]
      exact hlost.tenthsQueued.solid
    · have hdata : snapshotData (supplyLost s.toPanel) = snapshot := by
        rw [hsnap, snapshotData, hreach.dfa, hreach.trc]
      have hcount : (supplyLost s.toPanel).nvs.jobCount ≤ 6 := by
        rw [Nvs.jobCount, hnvs]
        exact hroom
      have hodo : (supplyLost s.toPanel).dfa.odometer = s.dfa.odometer := by rw [hreach.dfa]
      rw [hqueue, ← hdata, ← hodo]
      refine ⟨fun h => closeLatch_has (hlost.holds_snapshot (by omega) fun j hj => ?_), fun h htenths =>
        closeLatch_has (hlost.holds_odometer (by omega) (fun j hj => ?_) htenths), fun j hj hstays hcells hl hr =>
        closeLatch_has (hlost.holds_other (mem_supplyLost.mpr ⟨hj, hstays⟩) hcells ⟨hl, hr⟩)⟩
      · obtain ⟨hwaits, hstays⟩ := mem_supplyLost.mp hj
        exact h j hwaits hstays
      · obtain ⟨hwaits, hstays⟩ := mem_supplyLost.mp hj
        exact h j hwaits hstays
    · rw [enterShutdown_pmc, hpmc]
    · rw [enterShutdown_dfa, hreach.dfa]
    · rw [hqueue]
      rfl
    · rw [hqueue]
      intro w hw
      obtain ⟨v, -, rfl⟩ := Option.map_eq_some_iff.mp hw
      rfl
  · rw [if_neg hrun]
    refine ⟨by rw [hpmc], hlost.solid, by rw [hnvs], by rw [hreach.dfa], fun _ => ⟨by rw [hnvs], by rw [hnvs]⟩,
      fun hr => absurd hr hrun, hreach.trc, hreach.pcu, hreach.adc, hreach.svm,
      fun _ => ⟨hpmc, hreach.gdr, hreach.wrc, hreach.chk, hreach.sws⟩, fun hr => absurd hr hrun⟩

end Sys2Proof.Machine
end

section
/-! PROOFS. RUN entry at a return of the supply. Settles O59. -/

namespace Sys2Proof.Machine

open Sys2Proof

/-! ### What the judgements of RUN entry leave -/

/-- The windows of RUN and every port's PRESENT stand. -/
structure RunWindowsKept (p q : Panel) : Prop where
  bulbCheck : q.wrc.bulbCheck = p.wrc.bulbCheck
  beltWindow : q.wrc.beltWindow = p.wrc.beltWindow
  linkGrace : q.wrc.linkGraceTimer = p.wrc.linkGraceTimer
  present : PresenceKept p q

theorem RunWindowsKept.refl (p : Panel) : RunWindowsKept p p := ⟨rfl, rfl, rfl, fun _ => rfl⟩

theorem RunWindowsKept.after {p q r : Panel} (k : RunWindowsKept q r) (h : RunWindowsKept p q) : RunWindowsKept p r :=
  ⟨k.bulbCheck.trans h.bulbCheck, k.beltWindow.trans h.beltWindow, k.linkGrace.trans h.linkGrace,
    fun l => (k.present l).trans (h.present l)⟩

theorem RunWindowsKept.notifyAll (k : NoticeKind) (p : Panel) : RunWindowsKept p (notifyAll k p) :=
  ⟨rfl, rfl, rfl, notifyAll_presence k p⟩

theorem WarningsOnly.presenceKept {p q : Panel} (h : WarningsOnly p q) : PresenceKept p q := fun l => by
  rcases h.2 with hlnk | hlnk
  · rw [hlnk]
  · rw [hlnk, notifyAll_presence .warnings p l]

theorem WarningsJudged.windowsKept {p q : Panel} (h : WarningsJudged p q) : RunWindowsKept p q := by
  obtain ⟨honly, hjudged, -⟩ := h
  have hrest := hjudged.rest
  exact ⟨by rw [hrest], by rw [hrest], by rw [hrest], honly.presenceKept⟩

theorem evaluate_windowsKept (p : Panel) : RunWindowsKept p (evaluate p) := by
  obtain ⟨q, hq, hjudged⟩ := evaluate_reach p
  have hqk : RunWindowsKept p q := by
    rcases hq with rfl | rfl | rfl
    · exact .refl _
    · exact ⟨rfl, rfl, rfl, fun _ => rfl⟩
    · exact (RunWindowsKept.notifyAll .service (p.withSvm { p.svm with items := evaluatedItems p })).after
        ⟨rfl, rfl, rfl, fun _ => rfl⟩
  rcases hjudged with rfl | hjudged
  · exact hqk
  · exact hjudged.windowsKept.after hqk

theorem withFaults_windowsKept (p : Panel) : RunWindowsKept p p.withFaults := by
  rw [Panel.withFaults]
  split
  · exact ⟨rfl, rfl, rfl, fun _ => rfl⟩
  · exact .refl p

theorem startAutomatic_windowsKept (p : Panel) : RunWindowsKept p (startAutomatic p) := by
  have hbegun : RunWindowsKept p (checkBegun .auto p) := ⟨rfl, rfl, rfl, fun _ => rfl⟩
  have hjudged := (judgeFaultIndication_reach (checkBegun .auto p)).windowsKept
  exact (RunWindowsKept.notifyAll .check _).after (hjudged.after ((withFaults_windowsKept _).after hbegun))

/-- What RUN entry does once the blocks are set, before the presence timers. -/
def runJudged (p : Panel) : Panel := startAutomatic (evaluate (judgeWarnings (beforeRun p)))

theorem runJudged_windowsKept (p : Panel) : RunWindowsKept (beforeRun p) (runJudged p) :=
  (startAutomatic_windowsKept _).after ((evaluate_windowsKept _).after (judgeWarnings_judged _).windowsKept)

theorem beforeRun_presence (p : Panel) : PresenceKept p (beforeRun p) :=
  notifyAll_presence .mode (Panel.withPmc { (Pmc.enterRun p.pmc) with mode := .run } (Panel.onPmc Pmc.enterRun p))

/-- R184: the presence timer of every PRESENT link starts. -/
theorem enterRun_presenceTimer {p : Panel} {l : Link} (h : (p.lnk.ports.get l).present = true) :
    ((enterRun p).lnk.ports.get l).presenceTimer = some 2000000 := by
  have hpresent : ((runJudged p).lnk.ports.get l).present = true := by
    rw [(runJudged_windowsKept p).present l, beforeRun_presence p l, h]
  have hport : (enterRun p).lnk.ports.get l = ((runJudged p).lnk.ports.get l).restartPresence := PerLink.get_map _ _ _
  rw [hport, LinkPort.restartPresence, if_pos hpresent]
  rfl

theorem enterRun_check_noticed (p : Panel) (l : Link) : Noticed .check l (enterRun p) :=
  (restartPresence_noticesKept (runJudged p)).noticed _ _ (notifyAll_noticed .check l _)

/-- R193: the part at RUN entry, block by block. -/
theorem enterRun_after (p : Panel) : Reaches [.chk, .svm, .wrc, .lnk] (beforeRun p) (enterRun p) :=
  afterJudgedRun_reaches (beforeRun p)

theorem enterRun_check (p : Panel) : (enterRun p).chk.state = .running ∧ (enterRun p).chk.source = .auto ∧
    (enterRun p).chk.currentItem = some (.lamp .oil) := by
  have hstarted := startCheck_started .auto (evaluate (judgeWarnings (beforeRun p)))
  exact ⟨hstarted.state, hstarted.source_eq, hstarted.item⟩

/-- R79: a gauge at RUN entry sweeps, or tracks at once. -/
def GaugeRecord.enterRun (p : Panel) (g : Gauge) (r : GaugeRecord) : GaugeRecord :=
  if r.phase = .disabled then r
  else { r with
    phase := if p.nvs.calibration.sweepEnable then .sweepUp else .tracking
    target := phaseTarget (trackingValue p g) (if p.nvs.calibration.sweepEnable then .sweepUp else .tracking) }

theorem gaugesEnterRun_get (p : Panel) (g : Gauge) :
    (gaugesEnterRun p).gdr.gauges.get g = (p.gdr.gauges.get g).enterRun p g :=
  mapGauges_get (GaugeRecord.enterRun p) p g

theorem GaugeRecord.enterRun_phase (p : Panel) (g : Gauge) (r : GaugeRecord) : (r.enterRun p g).phase =
    if r.phase = .disabled then .disabled
    else if p.nvs.calibration.sweepEnable then .sweepUp else .tracking := by
  unfold GaugeRecord.enterRun
  split
  case isTrue h => exact h
  case isFalse => rfl

/-- What RUN entry writes before the gauges. -/
def beforeRunGauges (p : Panel) : Panel :=
  Panel.onTrc Trc.clearWindow (Panel.onDfa (Dfa.setSampleTimer (some 2000000))
    (Panel.onAdc (Adc.enterRun p.pcu.timebase) (Panel.onSws (Sws.modeChange .run)
      (setMode .run (Panel.onPmc Pmc.enterRun p)))))

theorem beforeRun_gauge (p : Panel) (g : Gauge) : ((beforeRun p).gdr.gauges.get g).phase =
    if (p.gdr.gauges.get g).phase = .disabled then .disabled
    else if p.nvs.calibration.sweepEnable then .sweepUp else .tracking :=
  (congrArg GaugeRecord.phase (gaugesEnterRun_get (beforeRunGauges p) g)).trans
    (GaugeRecord.enterRun_phase (beforeRunGauges p) g (p.gdr.gauges.get g))

/-- Settles O59: the supply alone, or RUN entry stage by stage. -/
theorem supplyReturnBeginsRun : Obligations.SupplyReturnBeginsRun := by
  unfold Obligations.SupplyReturnBeginsRun
  intro s hp
  have hactive : inputActive s.toPanel .ignOn = true ↔ s.sws.inputs.ignOn.accepted = .active := beq_iff_eq
  refine ⟨fun hlow => ?_, fun hlow hstays => ?_, fun hlow hmode hon => ?_⟩
  · refine (State.act_powered _ hp).trans ?_
    rw [supplyLowReleased_eq, hlow, if_neg Bool.false_ne_true]
  · refine (State.act_powered _ hp).trans ?_
    rw [supplyLowReleased_eq, hlow, if_pos rfl, if_neg]
    · rfl
    · rintro ⟨hmode, hon⟩
      rcases hstays with h | h | h
      · rw [h] at hmode
        rcases hmode with h | h <;> cases h
      · rw [h] at hmode
        rcases hmode with h | h <;> cases h
      · exact h (hactive.mp hon)
  · obtain ⟨p, hpdef⟩ : ∃ p, p = Panel.onPmc (Pmc.setSupplyLow false) s.toPanel := ⟨_, rfl⟩
    have hrun : supplyLowReleased s.toPanel = enterRun p := by
      rw [supplyLowReleased_eq, hlow, if_pos rfl, if_pos ⟨hmode, hactive.mpr hon⟩, hpdef]
    have hafter := enterRun_after p
    have hentered := enterRun_entered p
    have hwindows := runJudged_windowsKept p
    have hall := enterRun_reaches p
    have hget : ∀ i, (enterRun p).sws.inputs.get i = { s.sws.inputs.get i with count := 0 } := fun i => by
      rw [hentered.sws, hpdef]
      exact PerSwitch.get_map _ _ _
    obtain ⟨hstate, hsource, hitem⟩ := enterRun_check p
    refine ⟨enterRun p, (State.act_powered _ hp).trans (by rw [hrun]), ?_, hwindows.bulbCheck, hwindows.beltWindow,
      hwindows.linkGrace, ?_, fun i => ⟨by rw [hget], by rw [hget]⟩, fun started hst => ?_,
      ?_, ?_, ?_, ?_, fun g => ?_, ?_, hstate, hsource, hitem, ?_, ?_,
      fun l => ⟨hentered.noticed l, enterRun_check_noticed p l, fun h => ?_⟩⟩
    · rw [hafter.pmc, hpdef]
      rfl
    · rw [hentered.sws]
      rfl
    · rw [hafter.adc, hst, hpdef]
      rfl
    · rw [hafter.dfa, hpdef]
      rfl
    · rw [hentered.records.trips, hpdef]
      rfl
    · rw [hafter.trc]
      rfl
    · rw [hafter.trc]
      rfl
    · rw [hafter.gdr, beforeRun_gauge, hpdef]
      rfl
    · rw [hafter.gdr]
      rfl
    · rw [hall.nvs, hpdef]
      rfl
    · rw [hall.pcu, hpdef]
      rfl
    · exact enterRun_presenceTimer (by rw [hpdef]; exact h)

end Sys2Proof.Machine
end

section
/-! PROOFS. The end of SHUTDOWN. Settles O60. -/

namespace Sys2Proof.Machine

open Sys2Proof

/-! ### STANDBY entry (R195) -/

/-- The part in STANDBY, from the part at the end of SHUTDOWN. -/
structure StoodBy (p q : Panel) : Prop where
  mode : q.pmc.mode = .standby
  supply : q.pmc.supplyLow = p.pmc.supplyLow
  sampleTimer : q.sws.sampleTimer = some 64000
  conversion : q.adc.conversion = none
  persistence : ∀ sd, (q.adc.faults.get sd).persistence = none
  refresh : q.gdr.refreshTimer = none
  gauge : ∀ g, q.gdr.gauges.get g = (p.gdr.gauges.get g).stoodBy
  dfa : q.dfa = p.dfa
  trc : q.trc = p.trc
  svm : q.svm = p.svm
  chk : q.chk = p.chk
  pcu : q.pcu = p.pcu
  noticed : ∀ l, Noticed .mode l q

theorem enterStandby_adc (p : Panel) : (enterStandby p).adc = p.adc.enterStandby := by
  rw [enterStandby_eq, (judgeWarnings_reaches _).adc, (gaugesEnterStandby_reaches _).adc]
  rfl

theorem enterStandby_stoodBy (p : Panel) : StoodBy p (enterStandby p) := by
  have hentered := enterStandby_entered p
  have hreach := enterStandby_reaches p
  exact {
    mode := hentered.mode
    supply := hentered.supply
    sampleTimer := by rw [hentered.sws]; rfl
    conversion := by rw [enterStandby_adc]; rfl
    persistence := fun sd => by
      rw [enterStandby_adc]
      exact congrArg SenderFault.persistence (PerSender.get_map _ _ _)
    refresh := by rw [enterStandby_gdr]
    gauge := enterStandby_get p
    dfa := hreach.dfa
    trc := hreach.trc
    svm := hreach.svm
    chk := hreach.chk
    pcu := hreach.pcu
    noticed := hentered.noticed }

/-- The store takes no part in STANDBY entry. -/
theorem StoodBy.withNvs {p q : Panel} (h : StoodBy p q) (n : Nvs) : StoodBy p (q.withNvs n) := by
  exact { h with }

/-! ### The gauges at rest after a refresh (R80) -/

/-- A gauge that the next refresh leaves at rest. -/
def Panel.GaugeResting (p : Panel) (g : Gauge) : Prop :=
  (p.gdr.gauges.get g).hold ≠ .requested ∧ ((p.gdr.gauges.get g).phase = .parked ∨
    (p.gdr.gauges.get g).phase = .disabled ∨
    (p.gdr.gauges.get g).phase = .parking ∧ ((p.gdr.gauges.get g).current = 0 ∨
      (p.gdr.gauges.get g).hold = .none ∧
        (p.gdr.gauges.get g).current ≤ max (p.nvs.calibration.gaugeSlew.get g) 8))

theorem moveToward_zero (c step : Nat) : moveToward c 0 0 step = c - min c step := by
  have hgap : angleGap 0 c = c := by
    unfold angleGap
    omega
  rw [moveToward, hgap, if_neg (Nat.not_lt_zero c)]
  split <;> omega

theorem refreshed_current (p : Panel) (g : Gauge) :
    ((refreshed p).gdr.gauges.get g).current = (p.gaugeMoved g).current := by
  rw [refreshed, refreshStages_current]
  exact congrArg GaugeRecord.current (p.atMoved_get g)

theorem refreshed_phase (p : Panel) (g : Gauge) : ((refreshed p).gdr.gauges.get g).phase =
    ((p.gaugeMoved g).phaseJudged (p.nvs.calibration.gaugeDeadband.get g)).turned (sweepIsUp p.atMoved) := by
  rw [refreshed, refreshStages_phase]
  exact congrArg (fun r => (GaugeRecord.phaseJudged _ r).turned _) (p.atMoved_get g)

/-- R75: where a parking gauge stands after a refresh. -/
theorem gaugeMoved_parking {p : Panel} {g : Gauge} (h : (p.gdr.gauges.get g).phase = .parking) :
    (p.gaugeMoved g).current = if (p.gdr.gauges.get g).hold = .none then
      (p.gdr.gauges.get g).current - min (p.gdr.gauges.get g).current (max (p.nvs.calibration.gaugeSlew.get g) 8)
    else (p.gdr.gauges.get g).current := by
  split
  case isTrue hhold =>
    rw [gaugeMoved_current_of_free hhold (d := 0) (step := max (p.nvs.calibration.gaugeSlew.get g) 8) (by rw [h]; rfl),
      h]
    exact moveToward_zero _ _
  case isFalse hhold => exact gaugeMoved_current_of_still (.inl hhold)

/-- R78: a parking gauge is parked by a refresh exactly when it stands at 0. -/
theorem refreshed_phase_parking {p : Panel} {g : Gauge} (h : (p.gdr.gauges.get g).phase = .parking) :
    ((refreshed p).gdr.gauges.get g).phase = if (p.gaugeMoved g).current = 0 then .parked else .parking := by
  have hphase : (p.gaugeMoved g).phase = .parking := (gaugeMoved_phase p g).trans h
  have hjudged : (p.gaugeMoved g).phaseJudged (p.nvs.calibration.gaugeDeadband.get g) =
      if (p.gaugeMoved g).current = 0 then .parked else .parking := by
    rw [GaugeRecord.phaseJudged, hphase]
  rw [refreshed_phase, hjudged, Phase.turned_of_ne]
  split <;> exact Phase.noConfusion

/-- R78: a gauge that is neither parking nor sweeping keeps its Phase. -/
theorem refreshed_phase_other {p : Panel} {g : Gauge} (hup : (p.gdr.gauges.get g).phase ≠ .sweepUp)
    (hdown : (p.gdr.gauges.get g).phase ≠ .sweepDown) (hpark : (p.gdr.gauges.get g).phase ≠ .parking) :
    ((refreshed p).gdr.gauges.get g).phase = (p.gdr.gauges.get g).phase := by
  have hphase := gaugeMoved_phase p g
  rw [refreshed_phase, GaugeRecord.phaseJudged_of_other (by rw [hphase]; exact hdown) (by rw [hphase]; exact hpark),
    Phase.turned_of_ne (by rw [hphase]; exact hup), hphase]

/-- A gauge at rest after a refresh: the last of the parking ones reached 0 in it. -/
theorem refreshed_resting {p : Panel} {g : Gauge} (h : p.GaugeResting g) :
    ((refreshed p).gdr.gauges.get g).phase =
        (if (p.gdr.gauges.get g).phase = .parking then .parked else (p.gdr.gauges.get g).phase) ∧
      ((refreshed p).gdr.gauges.get g).current =
        (if (p.gdr.gauges.get g).phase = .parking then 0 else (p.gdr.gauges.get g).current) := by
  have hstill : (p.gdr.gauges.get g).phase = .parked ∨ (p.gdr.gauges.get g).phase = .disabled →
      ((refreshed p).gdr.gauges.get g).phase = (p.gdr.gauges.get g).phase ∧
        ((refreshed p).gdr.gauges.get g).current = (p.gdr.gauges.get g).current ∧
          (p.gdr.gauges.get g).phase ≠ .parking := fun hph => by
    refine ⟨refreshed_phase_other ?_ ?_ ?_, ?_, ?_⟩
    case refine_4 => rw [refreshed_current, gaugeMoved_current_of_still (.inr hph)]
    all_goals rcases hph with hph | hph <;> rw [hph] <;> exact Phase.noConfusion
  rcases h with ⟨-, hph | hph | ⟨hph, hnear⟩⟩
  · obtain ⟨hphase, hcurrent, hnot⟩ := hstill (.inl hph)
    rw [if_neg hnot, if_neg hnot]
    exact ⟨hphase, hcurrent⟩
  · obtain ⟨hphase, hcurrent, hnot⟩ := hstill (.inr hph)
    rw [if_neg hnot, if_neg hnot]
    exact ⟨hphase, hcurrent⟩
  · have hzero : (p.gaugeMoved g).current = 0 := by
      rw [gaugeMoved_parking hph]
      rcases hnear with hzero | ⟨hhold, hle⟩
      · rw [hzero, Nat.zero_sub, ite_self]
      · rw [if_pos hhold, Nat.min_eq_left hle, Nat.sub_self]
    rw [if_pos hph, if_pos hph, refreshed_phase_parking hph, refreshed_current, hzero, if_pos rfl]
    exact ⟨rfl, rfl⟩

theorem refreshed_at_rest {p : Panel} {g : Gauge} (h : p.GaugeResting g) :
    ((refreshed p).gdr.gauges.get g).phase = .parked ∨ ((refreshed p).gdr.gauges.get g).phase = .disabled := by
  rw [(refreshed_resting h).1]
  split
  case isTrue => exact .inl rfl
  case isFalse hnot =>
    rcases h.2 with hph | hph | ⟨hph, -⟩
    · exact .inl hph
    · exact .inr hph
    · exact absurd hph hnot

/-! ### The end of SHUTDOWN (R195) -/

theorem judgeRest_of_unwritten {p : Panel} (h : p.pmc.snapshotWritten = false) : judgeRest p = p :=
  if_neg fun hc => Bool.false_ne_true (h.symm.trans hc.2.2)

theorem judgeRest_of_written {p : Panel} (hmode : p.pmc.mode = .shutdown) (hrest : p.pmc.gaugesAtRest = true)
    (h : p.pmc.snapshotWritten = true) : judgeRest p = enterStandby p := if_pos ⟨hmode, hrest, h⟩

/-- The gauges at rest, known to the mode controller. -/
def restKnown (p : Panel) : Panel := p.withPmc { p.pmc with gaugesAtRest := true, shutdownTimer := none }

/-- The gauges' rest is delivered once. -/
def restDelivered (p : Panel) : Panel := p.withGdr { p.gdr with restDelivered := true }

theorem takeGaugesAtRest_of_shutdown {p : Panel} (h : p.pmc.mode = .shutdown) :
    takeGaugesAtRest p = judgeRest (restKnown p) := if_pos h

theorem shutdownTimerExpiry_of_running {p : Panel} (h : p.pmc.shutdownTimer.isSome = true)
    (hmode : p.pmc.mode = .shutdown) : shutdownTimerExpiry p = judgeRest (restKnown p) := by
  rw [shutdownTimerExpiry, if_pos h, takeGaugesAtRest_of_shutdown hmode]

/-- The first refresh that leaves every gauge at rest delivers it. -/
theorem refreshExpiry_resting {p : Panel} (hmode : p.pmc.mode = .shutdown) (hrun : p.gdr.refreshTimer.isSome = true)
    (hfirst : p.gdr.restDelivered = false) (h : ∀ g, p.GaugeResting g) :
    refreshExpiry p = judgeRest (restKnown (restDelivered (refreshed p))) := by
  have hpmc := (refreshed_reaches p).pmc
  have hgrants : deliverGrants p.gdr.gauges (refreshed p) = refreshed p :=
    deliverGrants_of_none fun g hreq => absurd hreq (h g).1
  rw [refreshExpiry_of_running hrun, hgrants, judgeGaugesRest, if_pos]
  · exact takeGaugesAtRest_of_shutdown (p := restDelivered (refreshed p)) (by exact hpmc ▸ hmode)
  · exact ⟨hpmc ▸ hmode, (gaugesRest_iff _).mpr fun g => refreshed_at_rest (h g),
      by rw [refreshed_gdr]; exact hfirst⟩

theorem judgeGaugesRest_of_busy {p : Panel} (h : p.gdr.restDelivered = true ∨
    ∃ g, (p.gdr.gauges.get g).phase ≠ .parked ∧ (p.gdr.gauges.get g).phase ≠ .disabled) :
    judgeGaugesRest p = p := by
  refine if_neg fun ⟨_, hrest, hfirst⟩ => ?_
  rcases h with h | ⟨g, hparked, hdisabled⟩
  · exact Bool.false_ne_true (hfirst.symm.trans h)
  · exact ((gaugesRest_iff p).mp hrest g).elim hparked hdisabled

/-- A refresh that leaves a gauge under way, or that is not the first at rest, does not end SHUTDOWN. -/
theorem refreshExpiry_busy {p : Panel} (h : p.gdr.restDelivered = true ∨
    ∃ g, (p.gdr.gauges.get g).phase = .tracking ∨ (p.gdr.gauges.get g).phase = .parking ∧
      max (p.nvs.calibration.gaugeSlew.get g) 8 < (p.gdr.gauges.get g).current) :
    (refreshExpiry p).pmc = p.pmc := by
  by_cases hrun : p.gdr.refreshTimer.isSome = true
  · have hreach := (deliverGrants_reaches p.gdr.gauges (refreshed p)).after (ds := [.gdr, .chk]) (refreshed_reaches p)
    rw [refreshExpiry_of_running hrun, judgeGaugesRest_of_busy, hreach.pmc]
    rcases h with h | ⟨g, h⟩
    · left
      rw [deliverGrants_gdr, refreshed_gdr]
      exact h
    · right
      refine ⟨g, ?_⟩
      have hphase : ((refreshed p).gdr.gauges.get g).phase = .tracking ∨
          ((refreshed p).gdr.gauges.get g).phase = .parking := by
        rcases h with htrack | ⟨hpark, hfar⟩
        · left
          rw [refreshed_phase_other (by rw [htrack]; exact Phase.noConfusion) (by rw [htrack]; exact Phase.noConfusion)
            (by rw [htrack]; exact Phase.noConfusion), htrack]
        · right
          rw [refreshed_phase_parking hpark, gaugeMoved_parking hpark, if_neg]
          split <;> omega
      rw [deliverGrants_get]
      rcases hphase with hphase | hphase <;> rw [hphase] <;> exact ⟨Phase.noConfusion, Phase.noConfusion⟩
  · rw [refreshExpiry, if_neg hrun]

end Sys2Proof.Machine
end

section
/-! PROOFS. What ends SHUTDOWN: the timer, the last pointers, or the snapshot. Settles O60. -/

namespace Sys2Proof.Machine

open Sys2Proof

/-- The part as STANDBY entry finds it: at the end of SHUTDOWN, with the gauges where the cause of the end left them. -/
structure EndsShutdown (c : Instr) (p r : Panel) : Prop where
  reaches : Reaches [.gdr, .nvs, .pmc] p r
  supply : r.pmc.supplyLow = p.pmc.supplyLow
  phase : ∀ g, (r.gdr.gauges.get g).stoodBy.phase =
    if (p.gdr.gauges.get g).phase = .parking then .parked else (p.gdr.gauges.get g).phase
  current : ∀ g, (r.gdr.gauges.get g).current =
    if c = .refreshExpiry ∧ (p.gdr.gauges.get g).phase = .parking then 0 else (p.gdr.gauges.get g).current

/-- An end of SHUTDOWN that moves no gauge. -/
theorem EndsShutdown.of_still {c : Instr} {p r : Panel} (hc : c ≠ .refreshExpiry) (hreach : Reaches [.nvs, .pmc] p r)
    (hsupply : r.pmc.supplyLow = p.pmc.supplyLow) : EndsShutdown c p r where
  reaches := hreach.mono (by decide)
  supply := hsupply
  phase := fun g => by
    rw [hreach.gdr]
    rfl
  current := fun g => by rw [hreach.gdr, if_neg fun h => hc h.1]

theorem restKnown_gauges (p : Panel) : (restKnown (restDelivered p)).gdr.gauges = p.gdr.gauges := rfl

theorem restKnown_delivered (p : Panel) : (restKnown (restDelivered p)).gdr.restDelivered = true := rfl

theorem restKnown_supply (p : Panel) : (restKnown (restDelivered p)).pmc.supplyLow = p.pmc.supplyLow := rfl

theorem restKnown_written (p : Panel) : (restKnown (restDelivered p)).pmc.snapshotWritten = p.pmc.snapshotWritten := rfl

theorem restKnown_mode (p : Panel) : (restKnown (restDelivered p)).pmc.mode = p.pmc.mode := rfl

theorem restKnown_reaches (p : Panel) : Reaches [.pmc] p (restKnown p) := withPmc_reaches _ p

/-- Gauges that came to rest change their own block and the mode controller's alone. -/
theorem restKnown_eq {p q : Panel} (h : Reaches [.gdr] p q) : restKnown (restDelivered q) = { p with
    gdr := (restKnown (restDelivered q)).gdr, pmc := { p.pmc with gaugesAtRest := true, shutdownTimer := none } } := by
  have hq : q = p.withGdr q.gdr := h.eq_of_reaches (withGdr_reaches _ _) (by
    simp only [List.mem_cons, List.not_mem_nil, or_false, forall_eq]
    rfl)
  obtain ⟨x, hx⟩ : ∃ x, x = q.gdr := ⟨_, rfl⟩
  rw [← hx] at hq
  rw [hq]
  rfl

/-- An end of SHUTDOWN by the last pointers, which reached 0 in the refresh. -/
theorem EndsShutdown.of_refresh {p : Panel} (h : ∀ g, p.GaugeResting g) :
    EndsShutdown .refreshExpiry p (restKnown (restDelivered (refreshed p))) where
  reaches := (restKnown_reaches _).after (bs := [.gdr])
    ((withGdr_reaches _ _).after (ds := [.gdr]) (refreshed_reaches p))
  supply := by
    rw [restKnown_supply, (refreshed_reaches p).pmc]
  phase := fun g => by
    have hphase := (refreshed_resting (h g)).1
    rw [restKnown_gauges, GaugeRecord.stoodBy]
    dsimp only
    rw [hphase]
    by_cases hpark : (p.gdr.gauges.get g).phase = .parking
    · rw [if_pos hpark]
      exact if_neg Phase.noConfusion
    · rw [if_neg hpark]
      exact if_neg hpark
  current := fun g => by
    have hcurrent := (refreshed_resting (h g)).2
    rw [restKnown_gauges, if_congr (and_iff_right rfl) rfl rfl]
    exact hcurrent

/-- The part once the last cell of the snapshot is programmed. -/
def snapshotTaken (j : WriteJob) (p : Panel) : Panel :=
  (p.withNvs { p.nvs.programmed j with inFlight := none, cellTimer := none }).withPmc
    { p.pmc with snapshotWritten := true }

theorem snapshotTaken_reaches (j : WriteJob) (p : Panel) : Reaches [.nvs, .pmc] p (snapshotTaken j p) :=
  (withPmc_reaches _ _).after (withNvs_reaches _ p)

theorem completeJob_snapshot {words : List StoreWord} {p : Panel}
    (hlast : ∀ j ∈ p.nvs.queue, ∀ words, j.data ≠ .cells 34 words) :
    completeJob (.cells 34 words) p = takeSnapshotWritten p := by
  have hnone : (p.nvs.queue.any fun j => j.data.isSnapshot) = false :=
    List.any_eq_false.mpr fun j hj hsnap => by
      cases hd : j.data with
      | odometer v =>
        rw [hd] at hsnap
        exact Bool.false_ne_true hsnap
      | cells first ws =>
        rw [hd] at hsnap
        have hfirst : first = 34 := beq_iff_eq.mp hsnap
        exact hlast j hj ws (by rw [hd, hfirst])
  rw [completeJob]
  rw [if_pos rfl, hnone, if_neg Bool.false_ne_true]

/-- R195: with the gauges at rest, the snapshot's last cell ends SHUTDOWN. -/
theorem cellProgrammed_snapshot {p : Panel} {j : WriteJob} {words : List StoreWord} (hmode : p.pmc.mode = .shutdown)
    (hrest : p.pmc.gaugesAtRest = true) (hdrain : p.nvs.draining = false) (hj : p.nvs.inFlight = some j)
    (hdata : j.data = .cells 34 words) (hlen : words.length = 30) (hk : j.progress = some 63)
    (hlast : ∀ j ∈ p.nvs.queue, ∀ words, j.data ≠ .cells 34 words) :
    ∃ n, cellProgrammed p = (enterStandby (snapshotTaken j p)).withNvs n := by
  have hend : (p.nvs.programmed j).lastCell j = true := by
    rw [Nvs.lastCell, Nvs.currentCell, hk, hdata]
    show decide (34 + words.length ≤ 63 + 1) = true
    rw [hlen]
    rfl
  have hcomplete : completeJob j.data
      (p.withNvs { p.nvs.programmed j with inFlight := none, cellTimer := none }) =
        enterStandby (snapshotTaken j p) := by
    rw [hdata, completeJob_snapshot (by exact hlast), takeSnapshotWritten, if_pos (by exact hmode)]
    exact judgeRest_of_written (p := snapshotTaken j p) hmode hrest rfl
  have hnvs : (enterStandby (snapshotTaken j p)).nvs.draining = false := by
    rw [(enterStandby_reaches _).nvs]
    exact hdrain
  exact ⟨_, by rw [cellProgrammed_eq hj, if_pos hend, hcomplete, afterJob_of_running hnvs]⟩

/-- The first refresh that leaves every gauge at rest, before the snapshot is written, delivers the rest alone. -/
theorem refreshExpiry_unwritten {p : Panel} (hmode : p.pmc.mode = .shutdown)
    (hrun : p.gdr.refreshTimer.isSome = true) (hfirst : p.gdr.restDelivered = false) (hall : ∀ g, p.GaugeResting g)
    (hunwritten : p.pmc.snapshotWritten = false) :
    ∃ q, refreshExpiry p = q ∧ q.gdr.restDelivered = true ∧
      q = { p with gdr := q.gdr, pmc := { p.pmc with gaugesAtRest := true, shutdownTimer := none } } ∧
      ∀ g, (q.gdr.gauges.get g).phase = .parked ∨ (q.gdr.gauges.get g).phase = .disabled := by
  have hreach := refreshed_reaches p
  have hunend : (restKnown (restDelivered (refreshed p))).pmc.snapshotWritten = false := by
    rw [restKnown_written, hreach.pmc, hunwritten]
  refine ⟨restKnown (restDelivered (refreshed p)), ?_, restKnown_delivered _, restKnown_eq hreach, fun g => ?_⟩
  · rw [refreshExpiry_resting hmode hrun hfirst hall, judgeRest_of_unwritten hunend]
  · rw [restKnown_gauges]
    exact refreshed_at_rest (hall g)

/-- A cause of the end of SHUTDOWN, and STANDBY entry. -/
def BringsStandby (c : Instr) (s : State) : Prop :=
  ∃ r q, exec c s = .next { s with toPanel := q } ∧ EndsShutdown c s.toPanel r ∧ StoodBy r q

theorem shutdownTimer_bringsStandby {s : State} (hp : s.powered = true) (hmode : s.pmc.mode = .shutdown)
    (htimer : s.pmc.shutdownTimer.isSome = true) (hwritten : s.pmc.snapshotWritten = true) :
    BringsStandby .shutdownTimerExpiry s := by
  refine ⟨restKnown s.toPanel, enterStandby (restKnown s.toPanel), ?_,
    .of_still Instr.noConfusion ((restKnown_reaches _).mono (by decide)) rfl, enterStandby_stoodBy _⟩
  refine (State.act_powered _ hp).trans ?_
  rw [shutdownTimerExpiry_of_running htimer hmode,
    judgeRest_of_written (p := restKnown s.toPanel) hmode rfl hwritten]

theorem refresh_bringsStandby {s : State} (hp : s.powered = true) (hmode : s.pmc.mode = .shutdown)
    (hrun : s.gdr.refreshTimer.isSome = true) (hfirst : s.gdr.restDelivered = false)
    (hall : ∀ g, s.toPanel.GaugeResting g) (hwritten : s.pmc.snapshotWritten = true) :
    BringsStandby .refreshExpiry s := by
  have hpmc := (refreshed_reaches s.toPanel).pmc
  have hend := judgeRest_of_written (p := restKnown (restDelivered (refreshed s.toPanel)))
    (by rw [restKnown_mode, hpmc]; exact hmode) rfl (by rw [restKnown_written, hpmc]; exact hwritten)
  refine ⟨restKnown (restDelivered (refreshed s.toPanel)),
    enterStandby (restKnown (restDelivered (refreshed s.toPanel))), ?_, .of_refresh hall, enterStandby_stoodBy _⟩
  refine (State.act_powered _ hp).trans ?_
  rw [refreshExpiry_resting hmode hrun hfirst hall, hend]

theorem snapshot_bringsStandby {s : State} {j : WriteJob} {words : List StoreWord} (hp : s.powered = true)
    (hmode : s.pmc.mode = .shutdown) (hrest : s.pmc.gaugesAtRest = true) (hdrain : s.nvs.draining = false)
    (hj : s.nvs.inFlight = some j) (hdata : j.data = .cells 34 words) (hlen : words.length = 30)
    (hk : j.progress = some 63) (hlast : ∀ j ∈ s.nvs.queue, ∀ words, j.data ≠ .cells 34 words) :
    BringsStandby .cellProgrammed s := by
  obtain ⟨n, hq⟩ := cellProgrammed_snapshot (p := s.toPanel) hmode hrest hdrain hj hdata hlen hk hlast
  refine ⟨snapshotTaken j s.toPanel, (enterStandby (snapshotTaken j s.toPanel)).withNvs n, ?_,
    .of_still Instr.noConfusion (snapshotTaken_reaches _ _) rfl, (enterStandby_stoodBy _).withNvs n⟩
  refine (State.act_powered _ hp).trans ?_
  rw [hq]

/-- Settles O60: what each cause of the end finds, and STANDBY entry from there. -/
theorem shutdownEndsInStandby : Obligations.ShutdownEndsInStandby := by
  unfold Obligations.ShutdownEndsInStandby
  intro s resting hp hmode hresting
  have hgauges : resting → s.gdr.refreshTimer.isSome = true ∧ s.gdr.restDelivered = false ∧
      ∀ g, s.toPanel.GaugeResting g := fun h => hresting.mp h
  refine ⟨fun htimer hunwritten => ?_, fun h hunwritten => ?_, fun h => ?_, fun c hc => ?_⟩
  · refine (State.act_powered _ hp).trans ?_
    rw [shutdownTimerExpiry_of_running htimer hmode, judgeRest_of_unwritten (p := restKnown s.toPanel) hunwritten]
    rfl
  · obtain ⟨hrun, hfirst, hall⟩ := hgauges h
    obtain ⟨q, hq, hdelivered, heq, hphases⟩ :=
      refreshExpiry_unwritten (p := s.toPanel) hmode hrun hfirst hall hunwritten
    exact ⟨q, (State.act_powered _ hp).trans (by rw [hq]), hdelivered, heq, hphases⟩
  · exact ⟨refreshExpiry s.toPanel, State.act_powered _ hp, refreshExpiry_busy h⟩
  · have hstands : BringsStandby c s := by
      rcases hc with ⟨rfl, htimer, hwritten⟩ | ⟨rfl, hrest, hwritten⟩ |
        ⟨rfl, hrest, hdrain, ⟨j, words, hj, hdata, hlen, hk⟩, hlast⟩
      · exact shutdownTimer_bringsStandby hp hmode htimer hwritten
      · obtain ⟨hrun, hfirst, hall⟩ := hgauges hrest
        exact refresh_bringsStandby hp hmode hrun hfirst hall hwritten
      · exact snapshot_bringsStandby hp hmode hrest hdrain hj hdata hlen hk hlast
    obtain ⟨r, q, hexec, hend, hstood⟩ := hstands
    refine ⟨q, hexec, hstood.mode, hstood.supply.trans hend.supply, hstood.sampleTimer, hstood.conversion,
      hstood.persistence, hstood.refresh, fun g => ?_, hstood.dfa.trans hend.reaches.dfa,
      hstood.trc.trans hend.reaches.trc, hstood.svm.trans hend.reaches.svm, hstood.chk.trans hend.reaches.chk,
      hstood.pcu.trans hend.reaches.pcu, hstood.noticed⟩
    rw [hstood.gauge]
    exact ⟨hend.phase g, hend.current g, rfl⟩

end Sys2Proof.Machine
end
